-- ==== Sys2Proof/Config.lean ====
section
/-! DEFINITION. The sizes and constants the IL-4 itself fixes. There is no free value
here: assumption 12 says where that was checked, and names the points that are marked choices instead. -/

namespace Sys2Proof.Config

/-- A ladder copy has twelve entry slots (R4). -/
def slotCount : Nat := 12
/-- The highest capacity an entry stores, in kbit/s (R5, R8). -/
def capacityMax : Nat := 4000000
/-- The highest SNR, threshold and estimate, in dB10 (R5, R22, R58, R93). -/
def snrMax : Nat := 500
/-- The slope history ring holds up to 16 values (R28). -/
def slopeRingSize : Nat := 16
/-- The challenge ring holds up to 16 challenges (R81). -/
def challengeRingSize : Nat := 16
/-- The first challenge after either reset (R66, R81). -/
def challengeSeed : BitVec 8 := 90#8
/-- Matches that take the peer channel UP (R75). -/
def verifyGoal : Nat := 8
/-- Where the echo mismatch counter saturates, and takes a channel in UP DOWN (R74, R75). -/
def mismatchLimit : Nat := 3
/-- The report age saturates here (R25). -/
def ageMax : Nat := 255
/-- A usable branch has at most this report age (R53). -/
def usableAge : Nat := 2
/-- Time at profile, the upshift dwell count and the required dwell saturate or are capped here (R47, R92, R101). -/
def dwellMax : Nat := 65535
/-- The stall counter saturates here (R106). -/
def stallMax : Nat := 4096
/-- A header is new again when it lies more than this many superframes back (R112). -/
def headerWindow : Nat := 64
/-- The reply list of the Capacity Link holds up to 8 replies (R141, R148). -/
def replyListSize : Nat := 8
/-- The input store of the Control Link holds 512 bytes (R167). -/
def inputStoreSize : Nat := 512
/-- Strobes after which an incomplete command frame is discarded (R167). -/
def frameStrobeLimit : Nat := 8

end Sys2Proof.Config
end

