-- ==== Sys2Proof/Word.lean ====
section
/-! DEFINITION. The words of the IL-4: bytes, superframe numbers, 16-bit check values and the 32-bit
counters (R1, R2). Only what the manual treats as bits is a bit vector. -/

namespace Sys2Proof

/-- One byte of a message, a frame or a record (R182, R190). -/
abbrev Byte := BitVec 8

/-- A superframe number: 16 bits, wrapping (R2). -/
abbrev Superframe := BitVec 16

/-- A counter read by READ COUNTERS: 32 bits, wrapping from 4,294,967,295 to 0 (R1, R177). -/
abbrev Counter := BitVec 32

end Sys2Proof
end

