-- ==== Sys2Proof/Machine/Operands.lean ====
section
/-! DEFINITION. The operand arithmetic every block shares: the superframe comparisons of R2, clamping and
saturation (R1), the byte order (most significant byte first) and the CRC-16 (R181). -/

namespace Sys2Proof.Machine

/-- "*m* is at or after *N*" (R2). -/
def atOrAfter (m n : Superframe) : Bool := decide ((m - n).toNat < 32768)

/-- "*m* is after *N*" (R2). -/
def isAfter (m n : Superframe) : Bool := atOrAfter m n && decide (m ≠ n)

/-- "*N* + *k*, for a lead *k*" (R2). -/
def plusLead (n : Superframe) (k : Nat) : Superframe := n + BitVec.ofNat 16 k

/-- Clamping to a range (R1). -/
def clampInt (lo hi x : Int) : Int := if x < lo then lo else if hi < x then hi else x

/-- Clamping a natural number from above; the ranges concerned begin at 0 (R1). -/
def clampNat (hi x : Nat) : Nat := if hi < x then hi else x

/-- Incrementing a counter that saturates at `limit` (R1). -/
def succSat (limit n : Nat) : Nat := if n < limit then n + 1 else limit

/-- Pushing at the newest end of a ring of `size`, the oldest dropped when it is full (R28, R81). -/
def pushRing {α : Type} (size : Nat) (ring : List α) (x : α) : List α :=
  (ring ++ [x]).drop ((ring ++ [x]).length - size)

/-- Two bytes, most significant first. -/
def be16 (v : BitVec 16) : List Byte := [v.extractLsb' 8 8, v.extractLsb' 0 8]

/-- Four bytes, most significant first. -/
def be32 (v : BitVec 32) : List Byte :=
  [v.extractLsb' 24 8, v.extractLsb' 16 8, v.extractLsb' 8 8, v.extractLsb' 0 8]

/-- Three bytes, most significant first: an event set (R190). -/
def be24 (v : BitVec 24) : List Byte := [v.extractLsb' 16 8, v.extractLsb' 8 8, v.extractLsb' 0 8]

/-- An integer as a two's complement 16-bit field. -/
def beInt16 (x : Int) : List Byte := be16 (BitVec.ofInt 16 x)

/-- A natural number as one byte. -/
def byteOf (n : Nat) : Byte := BitVec.ofNat 8 n

/-- A flag as one byte, 1 for set or yes (R190). -/
def flagByte (b : Bool) : Byte := if b then 1#8 else 0#8

/-- A one-byte item that may be absent, sent as FF hex then (R190). -/
def optByte (o : Option Nat) : Byte :=
  match o with
  | some n => byteOf n
  | none => 0xFF#8

/-- A two-byte item that may be absent, sent as 8000 hex then (R190). -/
def optInt16 (o : Option Int) : List Byte :=
  match o with
  | some x => beInt16 x
  | none => [0x80#8, 0x00#8]

/-- One bit of the CRC-16: added to bit 15, shifted out, and the generator added when the sum was 1 (R181). -/
def crcBit (register : BitVec 16) (bit : Bool) : BitVec 16 :=
  if xor bit register.msb then (register <<< 1) ^^^ 0x1021#16 else register <<< 1

/-- One byte of the CRC-16, bit 7 first (R181). -/
def crcByte (register : BitVec 16) (byte : Byte) : BitVec 16 :=
  [7, 6, 5, 4, 3, 2, 1, 0].foldl (fun r i => crcBit r (byte.getLsbD i)) register

/-- The CRC-16 of a sequence of bytes (R181). -/
def crc16 (bytes : List Byte) : BitVec 16 := bytes.foldl crcByte 0xFFFF#16

end Sys2Proof.Machine
end

