-- ==== Sys2Proof/Syntax.lean ====
section
/-! DEFINITION. The commands of the IL-4: one constructor per row of spec/opcode_table.json, with the
operands the row's arrival carries. What a demodulator, the modulator and the scheduler send is carried as
the bytes of the message (R182 to R189), so that the frame check of R183 is part of the command's meaning.
A Control Link command carries the fields of its body at the widths of R190. -/

namespace Sys2Proof

/-- One of the two diversity branches, which is also one of the two Modem Links. -/
inductive Branch where
  | a
  | b
  deriving DecidableEq, Repr

/-- The entry fields of WRITE LADDER ENTRY at the widths they arrive with (R8, R187). -/
structure EntryFields where
  enabled : Bool
  modulation : BitVec 4
  codeClass : BitVec 3
  capacity : BitVec 32
  down : BitVec 16
  up : BitVec 16
  minDwell : BitVec 16
  deriving DecidableEq, Repr

/-- The commands: everything that arrives at the IL-4. A row that names the special case of another row's
arrival (BURST_OVERFLOW of a Branch Report, PEER_TIMEOUT of a strobe, …) carries that arrival's operands. -/
inductive Instr where
  /-- POWER_ON_RESET (R154 and each block's reset column). -/
  | powerOnReset
  /-- SOFT_RESET: the command frame (R178). -/
  | softReset
  /-- SOFT_RESET_TAKES_EFFECT: the response has been sent (R178). The operand says how many of the 29 record
  bytes of a capacity read in flight had been sent by then (R183). -/
  | softResetTakesEffect (recordBytesSent : Fin 30)
  /-- MODEM_LINK_DOWN (R19, R20). -/
  | modemLinkDown (link : Branch)
  /-- MODEM_LINK_UP (R19, R21). -/
  | modemLinkUp (link : Branch)
  /-- MODEM_MESSAGE_SENT: the message being sent on the link has left whole (R19). -/
  | modemMessageSent (link : Branch)
  /-- BRANCH_REPORT: a message arrives from a demodulator (R22, R23, R183). -/
  | branchReport (link : Branch) (message : List Byte)
  /-- BURST_OVERFLOW: a Branch Report that overflows the burst error counter (R32). -/
  | burstOverflow (link : Branch) (message : List Byte)
  /-- LONG_FADE: a Branch Report on which the duration timer reaches 0 (R43). -/
  | longFade (link : Branch) (message : List Byte)
  /-- FAST_FADING_OFF: a Branch Report on which the recurrence timer reaches 0 (R44). -/
  | fastFadingOff (link : Branch) (message : List Byte)
  /-- FOREIGN_SIGNAL: a Branch Report whose word takes the foreign counter to the threshold (R72). -/
  | foreignSignal (link : Branch) (message : List Byte)
  /-- PEER_UP: a Branch Report whose word makes the eighth match (R75). -/
  | peerUp (link : Branch) (message : List Byte)
  /-- ECHO_FAULT: a Branch Report whose word makes the third mismatch in UP (R75). -/
  | echoFault (link : Branch) (message : List Byte)
  /-- HEADER_FOLLOW: a Branch Report whose header completes the follow count (R113). -/
  | headerFollow (link : Branch) (message : List Byte)
  /-- TRANSMIT_SLOT_REQUEST: a message arrives from the modulator (R121, R183). -/
  | transmitSlotRequest (link : Branch) (message : List Byte)
  /-- REPORT_AGE_COUNT: a strobe at both Branch Monitors (R25). -/
  | reportAgeCount
  /-- EVALUATION: a strobe at the Diversity Selector and the RAE (R52, R92). -/
  | evaluation
  /-- BRANCH_SWITCHED: an evaluation that switches the active branch (R56). -/
  | branchSwitched
  /-- UPSHIFT_DWELL_REACHED: an evaluation that yields an upshift candidate (R101). -/
  | upshiftDwellReached
  /-- REQUEST_STALLED: an evaluation that takes the stall counter to its limit (R106). -/
  | requestStalled
  /-- SILENCE_COUNT: a strobe at the Peer Channel (R77). -/
  | silenceCount
  /-- PEER_TIMEOUT: a strobe that takes the silence counter to the peer timeout (R77). -/
  | peerTimeout
  /-- TAE_STROBE: a strobe at the TAE (R131, R137). -/
  | taeStrobe
  /-- DRAIN_TIMEOUT: a strobe that takes the drain timer to the drain limit (R131). -/
  | drainTimeout
  /-- SLEW_STEP: a strobe that takes the slew counter to the slew interval (R137). -/
  | slewStep
  /-- CAPACITY_LINK_UP (R145). -/
  | capacityLinkUp
  /-- CAPACITY_LINK_RESET: framing lost (R145, R151). The operand says how many of the 29 record bytes of a
  read in flight had been sent by then (R183). -/
  | capacityLinkReset (recordBytesSent : Fin 30)
  /-- CAPACITY_READ: a message arrives from the scheduler (R146, R183). -/
  | capacityRead (message : List Byte)
  /-- END_OF_READ: the last byte of the record message has been sent (R147). -/
  | endOfRead
  /-- DRAIN_READY: a message arrives from the scheduler (R130, R150, R183). -/
  | drainReady (message : List Byte)
  /-- FRAME_STROBE_COUNT: a strobe at the Control Link Interface (R167). -/
  | frameStrobeCount
  /-- FRAME_TIMEOUT: a strobe that takes the count of an incomplete frame to 8 (R167). -/
  | frameTimeout
  /-- UNKNOWN_COMMAND: a complete command frame that fails check 1, 2 or 3 of R166. -/
  | unknownCommand (frame : List Byte)
  /-- READ_STATUS (R174, R176). -/
  | readStatus
  /-- CLEAR_EVENTS (R175). -/
  | clearEvents
  /-- SET_EVENT_MASK (R173): the 24-bit event set of the body. -/
  | setEventMask (mask : BitVec 24)
  /-- READ_COUNTERS (R177). -/
  | readCounters
  /-- CLEAR_COUNTERS (R177). -/
  | clearCounters
  /-- SET_PARAMETER (R170, R171). -/
  | setParameter (identifier : Byte) (value : BitVec 32)
  /-- READ_PARAMETER (R171). -/
  | readParameter (identifier : Byte)
  /-- WRITE_LADDER_ENTRY (R8). -/
  | writeLadderEntry (index : Byte) (entry : EntryFields)
  /-- READ_LADDER_ENTRY (R9). -/
  | readLadderEntry (copy : Byte) (index : Byte)
  /-- SET_LADDER_COUNT (R10). -/
  | setLadderCount (count : Byte)
  /-- COMMIT_LADDER (R12 to R16). -/
  | commitLadder
  /-- REVERT_LADDER (R11). -/
  | revertLadder
  /-- START (R156). -/
  | start
  /-- STOP (R157). -/
  | stop
  /-- HOLD (R158). -/
  | hold
  /-- RESUME (R158). -/
  | resume
  /-- PIN (R159). -/
  | pin (profile : Byte)
  /-- UNPIN (R159). -/
  | unpin
  /-- EXCLUDE_BRANCH (R62). -/
  | excludeBranch (branch : Byte)
  /-- INCLUDE_BRANCH (R62). -/
  | includeBranch (branch : Byte)
  /-- CONTROL_LINK_BYTE_ARRIVAL (R167). -/
  | controlLinkByteArrival (byte : Byte)
  deriving DecidableEq, Repr

end Sys2Proof
end

