-- ==== Sys2Proof/Machine/Parameters.lean ====
section
/-! DEFINITION. The parameter table of R169: identifiers, ranges, defaults, and the checks and clamping of
SET PARAMETER (R170). -/

namespace Sys2Proof.Machine

/-- A value held once for each branch. -/
structure PerBranch (α : Type) where
  a : α
  b : α
  deriving DecidableEq, Repr

/-- The value of one branch. -/
def PerBranch.get {α : Type} (p : PerBranch α) : Branch → α
  | .a => p.a
  | .b => p.b

/-- Replace the value of one branch. -/
def PerBranch.set {α : Type} (p : PerBranch α) (l : Branch) (x : α) : PerBranch α :=
  match l with
  | .a => { p with a := x }
  | .b => { p with b := x }

/-- The diversity modes (chapter 4), coded 0 to 3 in this order (R169). -/
inductive DiversityMode where
  | singleA
  | singleB
  | select
  | combine
  deriving DecidableEq, Repr

/-- The parameter table (R169). -/
structure Params where
  smoothingShift : Nat
  slopeSpan : Nat
  horizon : Nat
  upshiftDwell : Nat
  burstThreshold : PerBranch Nat
  fadeThreshold : PerBranch Nat
  fadeHysteresis : Nat
  durationLimit : Nat
  recurrenceLimit : Nat
  mode : DiversityMode
  selectHysteresis : Nat
  selectDwell : Nat
  followCount : Nat
  commitLead : Nat
  emergencyLead : Nat
  drainTimeout : Nat
  stallLimit : Nat
  peerTimeout : Nat
  ownHop : BitVec 20
  peerHop : BitVec 20
  hopMask : BitVec 20
  foreignThreshold : Nat
  atpc : Bool
  rslLow : Int
  rslHigh : Int
  attMin : Nat
  attMax : Nat
  slewIndex : Nat
  deriving DecidableEq, Repr

/-- The defaults that power-on reset sets (R169). -/
def Params.default : Params where
  smoothingShift := 3
  slopeSpan := 8
  horizon := 40
  upshiftDwell := 200
  burstThreshold := ⟨31, 31⟩
  fadeThreshold := ⟨150, 150⟩
  fadeHysteresis := 10
  durationLimit := 2000
  recurrenceLimit := 10000
  mode := .combine
  selectHysteresis := 20
  selectDwell := 10
  followCount := 3
  commitLead := 32
  emergencyLead := 8
  drainTimeout := 20
  stallLimit := 256
  peerTimeout := 50
  ownHop := 0#20
  peerHop := 0#20
  hopMask := 0xFFFFF#20
  foreignThreshold := 16
  atpc := true
  rslLow := -550
  rslHigh := -450
  attMin := 0
  attMax := 40
  slewIndex := 2

/-- The names of the parameters, in the order of their identifiers 1 to 30 (R169). -/
inductive ParamId where
  | smoothingShift | slopeSpan | horizon | upshiftDwell | burstThresholdA | burstThresholdB
  | fadeThresholdA | fadeThresholdB | fadeHysteresis | durationLimit | recurrenceLimit | mode
  | selectHysteresis | selectDwell | followCount | commitLead | emergencyLead | drainTimeout
  | stallLimit | peerTimeout | ownHop | peerHop | hopMask | foreignThreshold | atpc | rslLow
  | rslHigh | attMin | attMax | slewIndex
  deriving DecidableEq, Repr

/-- The parameter that an identifier names, none for 0 and 31 to 255 (R169, R170). -/
def ParamId.ofByte (identifier : Byte) : Option ParamId :=
  match identifier.toNat with
  | 1 => some .smoothingShift
  | 2 => some .slopeSpan
  | 3 => some .horizon
  | 4 => some .upshiftDwell
  | 5 => some .burstThresholdA
  | 6 => some .burstThresholdB
  | 7 => some .fadeThresholdA
  | 8 => some .fadeThresholdB
  | 9 => some .fadeHysteresis
  | 10 => some .durationLimit
  | 11 => some .recurrenceLimit
  | 12 => some .mode
  | 13 => some .selectHysteresis
  | 14 => some .selectDwell
  | 15 => some .followCount
  | 16 => some .commitLead
  | 17 => some .emergencyLead
  | 18 => some .drainTimeout
  | 19 => some .stallLimit
  | 20 => some .peerTimeout
  | 21 => some .ownHop
  | 22 => some .peerHop
  | 23 => some .hopMask
  | 24 => some .foreignThreshold
  | 25 => some .atpc
  | 26 => some .rslLow
  | 27 => some .rslHigh
  | 28 => some .attMin
  | 29 => some .attMax
  | 30 => some .slewIndex
  | _ => none

/-- The range of each parameter, lowest and highest value (R169). -/
def ParamId.range : ParamId → Int × Int
  | .smoothingShift => (0, 6)
  | .slopeSpan => (1, 15)
  | .horizon => (1, 255)
  | .upshiftDwell => (1, 4096)
  | .burstThresholdA => (1, 255)
  | .burstThresholdB => (1, 255)
  | .fadeThresholdA => (0, 500)
  | .fadeThresholdB => (0, 500)
  | .fadeHysteresis => (0, 50)
  | .durationLimit => (1, 65535)
  | .recurrenceLimit => (1, 65535)
  | .mode => (0, 3)
  | .selectHysteresis => (0, 100)
  | .selectDwell => (1, 1000)
  | .followCount => (1, 15)
  | .commitLead => (8, 255)
  | .emergencyLead => (4, 255)
  | .drainTimeout => (1, 1000)
  | .stallLimit => (16, 4096)
  | .peerTimeout => (4, 1000)
  | .ownHop => (0, 0xFFFFF)
  | .peerHop => (0, 0xFFFFF)
  | .hopMask => (0, 0xFFFFF)
  | .foreignThreshold => (1, 255)
  | .atpc => (0, 1)
  | .rslLow => (-1000, -150)
  | .rslHigh => (-1000, -150)
  | .attMin => (0, 80)
  | .attMax => (0, 80)
  | .slewIndex => (0, 7)

/-- The two parameters whose values are codes: a value outside is refused, not clamped (R170 step 2). -/
def ParamId.coded : ParamId → Bool
  | .mode => true
  | .atpc => true
  | _ => false

/-- The code of a diversity mode (R169). -/
def DiversityMode.code : DiversityMode → Nat
  | .singleA => 0
  | .singleB => 1
  | .select => 2
  | .combine => 3

/-- The diversity mode of a code, read only for codes 0 to 3 (R169, R170). -/
def DiversityMode.ofCode (x : Int) : DiversityMode :=
  if x = 0 then .singleA else if x = 1 then .singleB else if x = 2 then .select else .combine

/-- The stored value of a parameter, as READ PARAMETER returns it (R171). -/
def Params.read (p : Params) : ParamId → Int
  | .smoothingShift => p.smoothingShift
  | .slopeSpan => p.slopeSpan
  | .horizon => p.horizon
  | .upshiftDwell => p.upshiftDwell
  | .burstThresholdA => p.burstThreshold.a
  | .burstThresholdB => p.burstThreshold.b
  | .fadeThresholdA => p.fadeThreshold.a
  | .fadeThresholdB => p.fadeThreshold.b
  | .fadeHysteresis => p.fadeHysteresis
  | .durationLimit => p.durationLimit
  | .recurrenceLimit => p.recurrenceLimit
  | .mode => p.mode.code
  | .selectHysteresis => p.selectHysteresis
  | .selectDwell => p.selectDwell
  | .followCount => p.followCount
  | .commitLead => p.commitLead
  | .emergencyLead => p.emergencyLead
  | .drainTimeout => p.drainTimeout
  | .stallLimit => p.stallLimit
  | .peerTimeout => p.peerTimeout
  | .ownHop => p.ownHop.toNat
  | .peerHop => p.peerHop.toNat
  | .hopMask => p.hopMask.toNat
  | .foreignThreshold => p.foreignThreshold
  | .atpc => if p.atpc then 1 else 0
  | .rslLow => p.rslLow
  | .rslHigh => p.rslHigh
  | .attMin => p.attMin
  | .attMax => p.attMax
  | .slewIndex => p.slewIndex

/-- Store a value already brought into its range (R170 step 5). -/
def Params.store (p : Params) (which : ParamId) (x : Int) : Params :=
  match which with
  | .smoothingShift => { p with smoothingShift := x.toNat }
  | .slopeSpan => { p with slopeSpan := x.toNat }
  | .horizon => { p with horizon := x.toNat }
  | .upshiftDwell => { p with upshiftDwell := x.toNat }
  | .burstThresholdA => { p with burstThreshold := { p.burstThreshold with a := x.toNat } }
  | .burstThresholdB => { p with burstThreshold := { p.burstThreshold with b := x.toNat } }
  | .fadeThresholdA => { p with fadeThreshold := { p.fadeThreshold with a := x.toNat } }
  | .fadeThresholdB => { p with fadeThreshold := { p.fadeThreshold with b := x.toNat } }
  | .fadeHysteresis => { p with fadeHysteresis := x.toNat }
  | .durationLimit => { p with durationLimit := x.toNat }
  | .recurrenceLimit => { p with recurrenceLimit := x.toNat }
  | .mode => { p with mode := DiversityMode.ofCode x }
  | .selectHysteresis => { p with selectHysteresis := x.toNat }
  | .selectDwell => { p with selectDwell := x.toNat }
  | .followCount => { p with followCount := x.toNat }
  | .commitLead => { p with commitLead := x.toNat }
  | .emergencyLead => { p with emergencyLead := x.toNat }
  | .drainTimeout => { p with drainTimeout := x.toNat }
  | .stallLimit => { p with stallLimit := x.toNat }
  | .peerTimeout => { p with peerTimeout := x.toNat }
  | .ownHop => { p with ownHop := BitVec.ofInt 20 x }
  | .peerHop => { p with peerHop := BitVec.ofInt 20 x }
  | .hopMask => { p with hopMask := BitVec.ofInt 20 x }
  | .foreignThreshold => { p with foreignThreshold := x.toNat }
  | .atpc => { p with atpc := decide (x = 1) }
  | .rslLow => { p with rslLow := x }
  | .rslHigh => { p with rslHigh := x }
  | .attMin => { p with attMin := x.toNat }
  | .attMax => { p with attMax := x.toNat }
  | .slewIndex => { p with slewIndex := x.toNat }

/-- Whether a value in range keeps its pair of limits in order (R170 step 4). -/
def Params.consistent (p : Params) (which : ParamId) (x : Int) : Bool :=
  match which with
  | .rslLow => decide (x < p.rslHigh)
  | .rslHigh => decide (p.rslLow < x)
  | .attMin => decide (x ≤ p.attMax)
  | .attMax => decide ((p.attMin : Int) ≤ x)
  | _ => true

/-- What SET PARAMETER decides before anything is stored (R170). -/
inductive ParamVerdict where
  /-- Steps 1 and 2: an unknown identifier or a value outside the codes. -/
  | badFormat
  /-- Step 4: the write would invert a pair of limits. -/
  | inconsistent
  /-- Step 5: store `value`; `clamped` says that step 3 changed it. -/
  | take (which : ParamId) (value : Int) (clamped : Bool)
  deriving DecidableEq, Repr

/-- Steps 1 to 4 of R170. -/
def Params.judge (p : Params) (identifier : Byte) (value : BitVec 32) : ParamVerdict :=
  match ParamId.ofByte identifier with
  | none => .badFormat
  | some which =>
    if which.coded && decide (clampInt which.range.1 which.range.2 value.toInt ≠ value.toInt) then .badFormat
    else if p.consistent which (clampInt which.range.1 which.range.2 value.toInt) then
      .take which (clampInt which.range.1 which.range.2 value.toInt)
        (decide (clampInt which.range.1 which.range.2 value.toInt ≠ value.toInt))
    else .inconsistent

end Sys2Proof.Machine
end

