-- ==== Sys2Proof/Machine/State.lean ====
section
/-! DEFINITION. The state of the IL-4: every piece of state its twelve blocks hold, the links with the
messages waiting on them, the queue of waiting commands, and the state after power-on reset. -/

namespace Sys2Proof.Machine

/-! ### Profile Ladder (chapter 1) -/

/-- An entry of the ladder (R5). -/
structure Entry where
  enabled : Bool
  modulation : BitVec 4
  codeClass : BitVec 3
  capacity : Nat
  down : Nat
  up : Nat
  minDwell : Nat
  deriving DecidableEq, Repr

/-- The blank entry (R5). -/
def Entry.blank : Entry := ⟨false, 0#4, 0#3, 0, 0, 0, 0⟩

/-- One copy of the ladder: its count and its twelve slots (R4). -/
structure Ladder where
  count : Nat
  slots : Vector Entry Config.slotCount
  deriving DecidableEq, Repr

/-- The empty ladder: count 0, every slot blank (R7). -/
def Ladder.empty : Ladder := ⟨0, Vector.replicate Config.slotCount Entry.blank⟩

/-- The Profile Ladder: the active ladder, the edit copy and the digest of the active ladder (R4, R7, R17). -/
structure ProfileLadder where
  active : Ladder
  edit : Ladder
  digest : BitVec 16
  deriving DecidableEq, Repr

/-! ### Branch Monitors (chapter 2) -/

/-- The link status of a monitor (R18), coded ABSENT 0, UNLOCKED 1, LOCKED 2 (R190). -/
inductive LinkStatus where
  | absent
  | unlocked
  | locked
  deriving DecidableEq, Repr

/-- The eight branch counters (R35), in the order READ COUNTERS returns them (R177). -/
structure BranchCounters where
  lockedReports : Counter
  erroredSuperframes : Counter
  unlockedReports : Counter
  lockLosses : Counter
  linkLosses : Counter
  burstOverflows : Counter
  fades : Counter
  longFades : Counter
  deriving DecidableEq, Repr

/-- All eight counters 0 (R36). -/
def BranchCounters.zero : BranchCounters := ⟨0#32, 0#32, 0#32, 0#32, 0#32, 0#32, 0#32, 0#32⟩

/-- A Branch Monitor (R18). The filtered SNR and the slope are computed from it (R18, R29). -/
structure Monitor where
  status : LinkStatus
  /-- Filter state *f*, in 1/64 dB10. -/
  filter : Option Nat
  primed : Bool
  /-- Slope history ring, oldest first (R28). -/
  ring : List Nat
  rsl : Option Int
  age : Nat
  /-- Burst error counter (R32). -/
  burst : Nat
  counters : BranchCounters
  deriving DecidableEq, Repr

/-- A monitor after either reset (R18). -/
def Monitor.reset : Monitor := ⟨.absent, none, false, [], none, 255, 0, BranchCounters.zero⟩

/-! ### Fade Classifiers (chapter 3) -/

/-- A Fade Classifier (R38). A stopped timer is `none`; a running one holds its count. -/
structure FadeClassifier where
  /-- The fade state: FADED when true, CLEAR when false. -/
  faded : Bool
  duration : Option Nat
  recurrence : Option Nat
  longFade : Bool
  fastFading : Bool
  deriving DecidableEq, Repr

/-- A classifier after either reset (R38). -/
def FadeClassifier.reset : FadeClassifier := ⟨false, none, none, false, false⟩

/-! ### Diversity Selector (chapter 4) -/

/-- The values of a Branch Order (R61, R188). -/
inductive BranchOrder where
  | a
  | b
  | combine
  deriving DecidableEq, Repr

/-- The branches that govern an estimate (R60). -/
inductive Governing where
  | one (branch : Branch)
  | both
  deriving DecidableEq, Repr

/-- The governing estimate when it is present (R60). -/
structure Estimate where
  snr : Nat
  slope : Int
  rsl : Int
  governing : Governing
  deriving DecidableEq, Repr

/-- The Diversity Selector (R50). -/
structure Selector where
  mode : Option DiversityMode
  modeWrite : Bool
  active : Branch
  /-- Selection dwell count. -/
  dwell : Nat
  /-- Exclusion of each branch: true when excluded. -/
  excluded : PerBranch Bool
  lastOrder : Option BranchOrder
  /-- The usable set: which branches were usable at the last evaluation. -/
  usable : PerBranch Bool
  estimate : Option Estimate
  deriving DecidableEq, Repr

/-- The selector after either reset (R50). -/
def Selector.reset : Selector := ⟨none, false, .a, 0, ⟨false, false⟩, none, ⟨false, false⟩, none⟩

/-! ### Peer Channel (chapter 5) -/

/-- The peer channel state (R66), coded DOWN 0, VERIFYING 1, UP 2 (R190). -/
inductive ChannelState where
  | down
  | verifying
  | up
  deriving DecidableEq, Repr

/-- The kind of a request (R67, R186). -/
inductive RequestKind where
  | none
  | normal
  | emergency
  deriving DecidableEq, Repr

/-- A request: a profile and how urgently it is asked for (R67, R88). -/
structure Request where
  profile : Nat
  kind : RequestKind
  deriving DecidableEq, Repr

/-- A power request (R69), coded in this order (R186). -/
inductive PowerRequest where
  | hold
  | raise
  | lower
  | max
  deriving DecidableEq, Repr

/-- A commit: a profile and its switch superframe, present together (R67, R88, R118). -/
structure Commit where
  profile : Nat
  switch : Superframe
  deriving DecidableEq, Repr

/-- The peer fields (R67). -/
structure PeerFields where
  adapt : Bool
  challenge : Option Byte
  commit : Option Commit
  request : Request
  power : PowerRequest
  txProfile : Option Nat
  headroom : Nat
  digest : Option (BitVec 16)
  deriving DecidableEq, Repr

/-- The peer fields when they are cleared (R67). -/
def PeerFields.cleared : PeerFields := ⟨false, none, none, ⟨0, .none⟩, .hold, none, 0, none⟩

/-- The five check counts (R84), in the order of R177. -/
structure PeerCounters where
  wordsAccepted : Counter
  badCrc : Counter
  foreignWords : Counter
  duplicates : Counter
  echoMismatches : Counter
  deriving DecidableEq, Repr

/-- All five counts 0 (R84). -/
def PeerCounters.zero : PeerCounters := ⟨0#32, 0#32, 0#32, 0#32, 0#32⟩

/-- The Peer Channel (R66). -/
structure PeerChannel where
  state : ChannelState
  /-- Verify count. -/
  verify : Nat
  /-- Echo mismatch counter. -/
  mismatch : Nat
  /-- Foreign counter. -/
  foreign : Nat
  /-- Silence counter. -/
  silence : Nat
  /-- Last accepted far superframe *L*. -/
  lastFar : Option Superframe
  fields : PeerFields
  nextChallenge : Byte
  /-- Challenge ring, oldest first. -/
  ring : List Byte
  counters : PeerCounters
  deriving DecidableEq, Repr

/-- The Peer Channel after either reset (R66). -/
def PeerChannel.reset : PeerChannel :=
  ⟨.down, 0, 0, 0, 0, none, PeerFields.cleared, Config.challengeSeed, [], PeerCounters.zero⟩

/-! ### Receive Adaptation Engine (chapter 6) -/

/-- The six counts of the RAE (R116), in the order of R177. -/
structure RaeCounters where
  upSwitches : Counter
  downSwitches : Counter
  emergencies : Counter
  follows : Counter
  unknownHeaders : Counter
  ignoredCommits : Counter
  deriving DecidableEq, Repr

/-- All six counts 0 (R116). -/
def RaeCounters.zero : RaeCounters := ⟨0#32, 0#32, 0#32, 0#32, 0#32, 0#32⟩

/-- The RAE (R88). The RAE state is read from `request` and `commit` (R89). -/
structure Rae where
  /-- Expected incoming profile. -/
  e : Nat
  request : Request
  /-- Pending incoming commit (*q*, *N*), in the far numbering. -/
  commit : Option Commit
  power : PowerRequest
  /-- POWER_DEFERRED. -/
  deferred : Bool
  /-- Upshift dwell count. -/
  dwell : Nat
  timeAtProfile : Nat
  overflowNoted : Bool
  stall : Nat
  stallReported : Bool
  /-- Follow counter. -/
  follow : Nat
  /-- Follow candidate. -/
  candidate : Option Nat
  lastHeader : Option Superframe
  predicted : Option Nat
  counters : RaeCounters
  deriving DecidableEq, Repr

/-- The RAE after either reset (R88). -/
def Rae.reset : Rae :=
  ⟨0, ⟨0, .none⟩, none, .hold, false, 0, 0, false, 0, false, 0, none, none, none, RaeCounters.zero⟩

/-! ### Transmit Adaptation Engine (chapter 7) -/

/-- The TAE state with the drain target, drain timer and drain limit of DRAINING and the pending outgoing
commit of COMMITTED. R118 ties them: the target is present exactly in DRAINING, the commit exactly in
COMMITTED, and outside DRAINING the timer is 0 and the limit absent. -/
inductive TaeState where
  | steady
  | draining (target : Nat) (timer : Nat) (limit : Nat)
  | committed (commit : Commit)
  deriving DecidableEq, Repr

/-- The seven counts of the TAE (R139), in the order of R177. -/
structure TaeCounters where
  upSwitches : Counter
  downSwitches : Counter
  emergencies : Counter
  badRequests : Counter
  drainTimeouts : Counter
  lateAnswers : Counter
  unconfirmedDownshifts : Counter
  deriving DecidableEq, Repr

/-- All seven counts 0 (R139). -/
def TaeCounters.zero : TaeCounters := ⟨0#32, 0#32, 0#32, 0#32, 0#32, 0#32, 0#32⟩

/-- The TAE (R118). -/
structure Tae where
  /-- Current outgoing profile. -/
  c : Nat
  state : TaeState
  /-- Last slot number *n*_last. -/
  lastSlot : Option Superframe
  fallbackOwed : Bool
  /-- Attenuation *a*, in half-dB steps. -/
  attenuation : Nat
  slew : Nat
  counters : TaeCounters
  deriving DecidableEq, Repr

/-- The TAE after a reset that sets the attenuation to `a` (R118). -/
def Tae.resetAt (a : Nat) : Tae := ⟨0, .steady, none, false, a, 0, TaeCounters.zero⟩

/-! ### Link Supervisor (chapter 9) -/

/-- The wait reasons of ACQUIRE (R154). -/
inductive WaitReason where
  | starting
  | peerDown
  | ladderMismatch
  deriving DecidableEq, Repr

/-- The link state, with the wait reason that is present in ACQUIRE alone and the pin profile that is
present in PINNED alone (R154). -/
inductive LinkState where
  | offline
  | acquire (reason : WaitReason)
  | adaptive
  | pinned (profile : Nat)
  | fixed
  deriving DecidableEq, Repr

/-! ### Capacity Link Interface (chapter 8) -/

/-- The tx part of a record that is pending, with the fields present under it (R142). -/
inductive TxPending where
  | none
  | drainRequested (profile : Nat) (capacity : Nat)
  | committed (profile : Nat) (capacity : Nat) (switch : Superframe)
  deriving DecidableEq, Repr

/-- The rx part of a record that is pending (R142). -/
inductive RxPending where
  | none
  | committed (profile : Nat) (capacity : Nat) (switch : Superframe)
  deriving DecidableEq, Repr

/-- A Capacity Record (R142). `link` is the code of the link state, OFFLINE 0 to FIXED 4 (R180). -/
structure CapacityRecord where
  generation : BitVec 16
  link : Nat
  txProfile : Nat
  txCapacity : Nat
  tx : TxPending
  rxProfile : Nat
  rxCapacity : Nat
  rx : RxPending
  deriving DecidableEq, Repr

/-- The generation-0 record (R152). -/
def CapacityRecord.generationZero : CapacityRecord := ⟨0#16, 0, 0, 0, .none, 0, 0, .none⟩

/-- The three record buffers (R141). -/
inductive Buffer where
  | b0
  | b1
  | b2
  deriving DecidableEq, Repr

/-- The result of a DRAIN READY (R150). -/
inductive DrainResult where
  | accepted
  | late
  deriving DecidableEq, Repr

/-- A reply owed to the scheduler (R148, R150). -/
inductive Reply where
  | busy
  | drainAnswer (result : DrainResult) (profile : BitVec 4) (generation : BitVec 16)
  deriving DecidableEq, Repr

/-- A Capacity Alert: COMMIT when a switch superframe is present, DRAIN when it is absent (R149). -/
structure CapacityAlert where
  profile : Nat
  capacity : Nat
  switch : Option Superframe
  generation : BitVec 16
  deriving DecidableEq, Repr

/-- The Capacity Link Interface (R141). The outgoing direction is SENDING exactly while `held` is present. -/
structure CapacityLink where
  /-- Link framing: UP when true. -/
  framing : Bool
  buffer0 : CapacityRecord
  buffer1 : CapacityRecord
  buffer2 : CapacityRecord
  newest : Buffer
  held : Option Buffer
  generation : BitVec 16
  /-- Reply list, oldest first. -/
  replies : List Reply
  /-- Waiting alert. -/
  alert : Option CapacityAlert
  deriving DecidableEq, Repr

/-- The interface after a reset that leaves the framing at `framing` (R141, R152). -/
def CapacityLink.resetWith (framing : Bool) : CapacityLink :=
  ⟨framing, .generationZero, .generationZero, .generationZero, .b0, none, 0#16, [], none⟩

/-! ### Modem Links (chapters 2 and 11) -/

/-- A Receive Order (R109); an absent start is *immediate*. -/
structure ReceiveOrder where
  start : Option Superframe
  profile : Nat
  modulation : BitVec 4
  codeClass : BitVec 3
  deriving DecidableEq, Repr

/-- The profile part and the overhead word of a Transmit Order that is not muted (R123). -/
structure TransmitContent where
  profile : Nat
  modulation : BitVec 4
  codeClass : BitVec 3
  word : List Byte
  deriving DecidableEq, Repr

/-- A Transmit Order; absent content is *mute* (R123). -/
structure TransmitOrder where
  slot : Superframe
  attenuation : Nat
  content : Option TransmitContent
  deriving DecidableEq, Repr

/-- A message issued for a Modem Link (R184). -/
inductive ModemMessage where
  | receive (order : ReceiveOrder)
  | branch (order : BranchOrder)
  | transmit (order : TransmitOrder)
  deriving DecidableEq, Repr

/-- A Modem Link interface: its framing, and the messages issued and not yet sent whole, the one being sent
first (R19). -/
structure ModemLink where
  up : Bool
  waiting : List ModemMessage
  deriving DecidableEq, Repr

/-- A Modem Link after power-on reset (R19). -/
def ModemLink.reset : ModemLink := ⟨false, []⟩

/-! ### Control Link Interface (chapter 10) -/

/-- A set of events: bit *k* stands for the event with that bit number (R172, R190). -/
abbrev EventSet := BitVec 21

/-- A frame in the input store that has ended and awaits its response (R167). -/
inductive HeldFrame where
  /-- All its bytes have arrived and are held. -/
  | complete (bytes : List Byte)
  /-- It ended behind other frames and is owed REFUSED_FORMAT: it timed out, and none of its bytes is held, or a
  byte of it was discarded at a full store, and `bytes` are those that are held. -/
  | failed (bytes : List Byte)
  deriving DecidableEq, Repr

/-- How far the arrival of a frame has come: the length byte comes next, or so many bytes are still to arrive by
the length byte that has arrived (R166). -/
inductive Extent where
  | lengthNext
  | remaining (bytes : Nat)
  deriving DecidableEq, Repr

/-- The Control Link Interface, less the parameter table (R167, R172 to R175, R178). -/
structure ControlLink where
  /-- The pending set. -/
  events : EventSet
  mask : EventSet
  /-- The reported set. -/
  reported : Option EventSet
  /-- The attention line: true when asserted (R173). -/
  attention : Bool
  /-- Frames that have ended, in the order in which they ended. -/
  frames : List HeldFrame
  /-- The bytes of the incomplete frame that the store holds. -/
  incomplete : List Byte
  /-- Present when a byte of the incomplete frame was discarded at a full store: its arrival so far (R166,
  R167). With no byte discarded, `incomplete` tells it. -/
  lost : Option Extent
  /-- Strobes since the last byte of the incomplete frame. -/
  frameStrobes : Nat
  /-- The response to SOFT RESET is being sent (R178). -/
  resetPending : Bool
  deriving DecidableEq, Repr

/-! ### The whole part -/

/-- What has left the part on its links, each message or frame as its bytes, oldest first. The model's own
field: it changes no behaviour, and statements read from it what a partner saw (assumption 6). -/
structure Sent where
  modem : PerBranch (List (List Byte))
  capacity : List (List Byte)
  control : List (List Byte)
  deriving DecidableEq, Repr

/-- Nothing has left yet. -/
def Sent.nothing : Sent := ⟨⟨[], []⟩, [], []⟩

/-- Why a machine stops. No rule of the manual stops the IL-4, so there is no fault. -/
inductive Fault where
  deriving DecidableEq, Repr

/-- Why a command has no meaning. -/
inductive Refusal where
  /-- Raised by an arm of `exec` whose command the model has not reached. Safe: the machine stops where the
  hardware goes on. No arm raises it now. -/
  | notModelled (mnemonic : String)
  deriving DecidableEq, Repr

/-- The state of the IL-4. -/
structure State where
  ladder : ProfileLadder
  modem : PerBranch ModemLink
  monitor : PerBranch Monitor
  fade : PerBranch FadeClassifier
  selector : Selector
  peer : PeerChannel
  rae : Rae
  tae : Tae
  capacity : CapacityLink
  link : LinkState
  control : ControlLink
  params : Params
  sent : Sent
  /-- An UNPIN awaits its evaluation, which starts from the upshift dwell count 0 (R159). The field is the model's own:
  UNPIN itself leaves the RAE unchanged (R88, assumption 18). -/
  unpinned : Bool
  /-- The commands that are waiting, first in, first out. -/
  pending : List Instr
  deriving DecidableEq, Repr

/-- The Control Link Interface after power-on reset: RESTARTED alone is pending and asserts the line
(R167, R172, R173, R174). -/
def ControlLink.reset : ControlLink := ⟨1#21, 0#21, none, true, [], [], none, 0, false⟩

/-- The state after power-on reset: every block's *After power-on reset* column. -/
def State.reset : State where
  ladder := ⟨.empty, .empty, 0xE1F0#16⟩
  modem := ⟨.reset, .reset⟩
  monitor := ⟨.reset, .reset⟩
  fade := ⟨.reset, .reset⟩
  selector := .reset
  peer := .reset
  rae := .reset
  tae := .resetAt 40
  capacity := .resetWith false
  link := .offline
  control := .reset
  params := .default
  sent := .nothing
  unpinned := false
  pending := []

/-! ### Updates of one block -/

/-- Replace the Profile Ladder. -/
def State.withLadder (s : State) (x : ProfileLadder) : State := { s with ladder := x }
/-- Replace the Modem Links. -/
def State.withModem (s : State) (x : PerBranch ModemLink) : State := { s with modem := x }
/-- Replace the Branch Monitors. -/
def State.withMonitor (s : State) (x : PerBranch Monitor) : State := { s with monitor := x }
/-- Replace the Fade Classifiers. -/
def State.withFade (s : State) (x : PerBranch FadeClassifier) : State := { s with fade := x }
/-- Replace the Diversity Selector. -/
def State.withSelector (s : State) (x : Selector) : State := { s with selector := x }
/-- Replace the Peer Channel. -/
def State.withPeer (s : State) (x : PeerChannel) : State := { s with peer := x }
/-- Replace the RAE. -/
def State.withRae (s : State) (x : Rae) : State := { s with rae := x }
/-- Replace the TAE. -/
def State.withTae (s : State) (x : Tae) : State := { s with tae := x }
/-- Replace the Capacity Link Interface. -/
def State.withCapacity (s : State) (x : CapacityLink) : State := { s with capacity := x }
/-- Replace the link state. -/
def State.withLink (s : State) (x : LinkState) : State := { s with link := x }
/-- Replace the Control Link Interface. -/
def State.withControl (s : State) (x : ControlLink) : State := { s with control := x }
/-- Replace the parameter table. -/
def State.withParams (s : State) (x : Params) : State := { s with params := x }
/-- Replace what has been sent. -/
def State.withSent (s : State) (x : Sent) : State := { s with sent := x }
/-- Note, or drop, that an UNPIN awaits its evaluation. -/
def State.withUnpinned (s : State) (x : Bool) : State := { s with unpinned := x }
/-- Replace the queue of waiting commands. -/
def State.withPending (s : State) (x : List Instr) : State := { s with pending := x }

end Sys2Proof.Machine
end

