-- ==== Sys2Proof/Machine/Flags.lean ====
section
/-! DEFINITION. The event flags: the 21 events, the pending set, the event mask, the reported set and the
attention line (R172 to R175). -/

namespace Sys2Proof.Machine

/-- The events (R172), in the bit order of an event set (R190). -/
inductive Event where
  | restarted | stateChanged | ladderMismatch | pinFault
  | peerUp | peerDown | echoFault | foreignSignal
  | branchLost | burstOverflowA | burstOverflowB | branchSwitched
  | longFadeA | longFadeB | fastFadingOn | fastFadingOff
  | profileChangedRx | profileFollowed | requestStalled
  | profileChangedTx | drainTimeout
  deriving DecidableEq, Repr

/-- The bit of an event in an event set (R190). -/
def Event.bit : Event → Nat
  | .restarted => 0
  | .stateChanged => 1
  | .ladderMismatch => 2
  | .pinFault => 3
  | .peerUp => 4
  | .peerDown => 5
  | .echoFault => 6
  | .foreignSignal => 7
  | .branchLost => 8
  | .burstOverflowA => 9
  | .burstOverflowB => 10
  | .branchSwitched => 11
  | .longFadeA => 12
  | .longFadeB => 13
  | .fastFadingOn => 14
  | .fastFadingOff => 15
  | .profileChangedRx => 16
  | .profileFollowed => 17
  | .requestStalled => 18
  | .profileChangedTx => 19
  | .drainTimeout => 20

/-- The event set holding one event. -/
def Event.flag (e : Event) : EventSet := 1#21 <<< e.bit

/-- Whether an event is in a set. -/
def EventSet.has (set : EventSet) (e : Event) : Bool := set.getLsbD e.bit

/-- The burst overflow event of a branch (R32). -/
def burstOverflowEvent : Branch → Event
  | .a => .burstOverflowA
  | .b => .burstOverflowB

/-- The long fade event of a branch (R43). -/
def longFadeEvent : Branch → Event
  | .a => .longFadeA
  | .b => .longFadeB

/-- The attention line: asserted while at least one pending event is not in the mask (R173). -/
def attentionOf (events mask : EventSet) : Bool := decide (events &&& ~~~mask ≠ 0#21)

/-- The Control Link Interface with a new pending set, the attention line following it (R173). -/
def ControlLink.withEvents (k : ControlLink) (events : EventSet) : ControlLink :=
  { k with events := events, attention := attentionOf events k.mask }

/-- Raising an event: it is pending, and it leaves the reported set (R172, R174). -/
def raise (e : Event) (s : State) : State :=
  s.withControl
    { s.control.withEvents (s.control.events ||| e.flag) with
      reported := s.control.reported.map (fun r => r &&& ~~~e.flag) }

/-- Raising an event when a condition holds. -/
def raiseIf (b : Bool) (e : Event) (s : State) : State := if b then raise e s else s

/-- Replacing the event mask (R173). -/
def setMask (mask : EventSet) (s : State) : State :=
  s.withControl { s.control with mask := mask, attention := attentionOf s.control.events mask }

/-- READ STATUS sets the reported set to the pending set (R174). -/
def noteReported (s : State) : State :=
  s.withControl { s.control with reported := some s.control.events }

/-- The set that CLEAR EVENTS removes (R175). -/
def clearable (s : State) : EventSet :=
  match s.control.reported with
  | some r => s.control.events &&& r
  | none => 0#21

/-- CLEAR EVENTS on the pending and the reported set (R175). -/
def clearReported (s : State) : State :=
  s.withControl
    { s.control.withEvents (s.control.events &&& ~~~clearable s) with reported := none }

end Sys2Proof.Machine
end

