-- ==== Sys2Proof/Machine/Formats.lean ====
section
/-! DEFINITION. The byte layouts of chapter 11: ladder entries, the overhead word, the messages of the Modem
Links and the Capacity Link with their frame check, and the frames and responses of the Control Link. -/

namespace Sys2Proof.Machine

/-! ### Ladder entries (R17, R187) -/

/-- The 11 bytes of an entry. -/
def Entry.bytes (e : Entry) : List Byte :=
  [BitVec.ofBool e.enabled ++ e.modulation ++ e.codeClass]
    ++ be32 (BitVec.ofNat 32 e.capacity) ++ be16 (BitVec.ofNat 16 e.down)
    ++ be16 (BitVec.ofNat 16 e.up) ++ be16 (BitVec.ofNat 16 e.minDwell)

/-- The entries of a ladder copy: those in its slots below the count (R4). -/
def Ladder.entries (l : Ladder) : List Entry := l.slots.toList.take l.count

/-- The digest of a ladder copy (R17). -/
def Ladder.digest (l : Ladder) : BitVec 16 :=
  crc16 (byteOf l.count :: l.entries.flatMap Entry.bytes)

/-! ### The overhead word (R69, R186) -/

/-- The fields of an overhead word. Echo and commit are present exactly when their valid bits are set; a
filler is not read (R185). -/
structure OverheadWord where
  hopId : BitVec 20
  adapt : Bool
  echo : Option Byte
  commit : Option Commit
  challenge : Byte
  request : Request
  power : PowerRequest
  txProfile : Nat
  headroom : Nat
  digest : BitVec 16
  deriving DecidableEq, Repr

/-- The code of a request kind (R186). -/
def RequestKind.code : RequestKind → Nat
  | .none => 0
  | .normal => 1
  | .emergency => 2

/-- The request kind of a code; code 3 is read as NONE (R69). -/
def RequestKind.ofCode (code : BitVec 2) : RequestKind :=
  if code = 1#2 then .normal else if code = 2#2 then .emergency else .none

/-- The code of a power request (R186). -/
def PowerRequest.code : PowerRequest → Nat
  | .hold => 0
  | .raise => 1
  | .lower => 2
  | .max => 3

/-- The power request of a code (R186). -/
def PowerRequest.ofCode (code : BitVec 2) : PowerRequest :=
  if code = 1#2 then .raise else if code = 2#2 then .lower else if code = 3#2 then .max else .hold

/-- Bytes 0 to 11 of a word (R186). Spare bits are 0 (R185). -/
def OverheadWord.body (w : OverheadWord) : List Byte :=
  [w.hopId.extractLsb' 12 8,
   w.hopId.extractLsb' 4 8,
   w.hopId.extractLsb' 0 4 ++ BitVec.ofBool w.adapt ++ BitVec.ofBool w.echo.isSome
     ++ BitVec.ofBool w.commit.isSome ++ 0#1,
   w.echo.getD 0#8,
   BitVec.ofNat 4 ((w.commit.map (·.profile)).getD 0) ++ BitVec.ofNat 4 w.txProfile]
    ++ be16 ((w.commit.map (·.switch)).getD 0#16)
    ++ [w.challenge,
        BitVec.ofNat 4 w.request.profile ++ BitVec.ofNat 2 w.request.kind.code
          ++ BitVec.ofNat 2 w.power.code,
        0#1 ++ BitVec.ofNat 7 w.headroom]
    ++ be16 w.digest

/-- The 14 bytes of a word, its CRC in bytes 12 and 13 (R186). -/
def OverheadWord.bytes (w : OverheadWord) : List Byte := w.body ++ be16 (crc16 w.body)

/-- Stage 1 of the check: the CRC of bytes 0 to 11 equals bytes 12 and 13 (R71). -/
def wordIntact (bytes : List Byte) : Bool :=
  decide (bytes.drop 12 = be16 (crc16 (bytes.take 12)))

/-- The fields of a 14-byte word; spare bits are ignored (R185) and headroom codes 81 to 127 are read as 80
(R69). The last two bytes, the CRC, are read by `wordIntact`. -/
def OverheadWord.parse (bytes : List Byte) : Option OverheadWord :=
  match bytes with
  | [b0, b1, b2, b3, b4, b5, b6, b7, b8, b9, b10, b11, _, _] =>
    some
      { hopId := b0 ++ b1 ++ b2.extractLsb' 4 4
        adapt := b2.getLsbD 3
        echo := if b2.getLsbD 2 then some b3 else none
        commit := if b2.getLsbD 1 then some ⟨(b4.extractLsb' 4 4).toNat, b5 ++ b6⟩ else none
        challenge := b7
        request := ⟨(b8.extractLsb' 4 4).toNat, RequestKind.ofCode (b8.extractLsb' 2 2)⟩
        power := PowerRequest.ofCode (b8.extractLsb' 0 2)
        txProfile := (b4.extractLsb' 0 4).toNat
        headroom := clampNat 80 (b9.extractLsb' 0 7).toNat
        digest := b10 ++ b11 }
  | _ => none

/-! ### Framing on the Modem Links and the Capacity Link (R182, R183) -/

/-- A message as it leaves: type, body, CRC-16 over both (R182). -/
def sealMessage (type : Byte) (body : List Byte) : List Byte :=
  (type :: body) ++ be16 (crc16 (type :: body))

/-- The type and body of a message that is long enough and whose CRC matches (R183). -/
def openMessage (message : List Byte) : Option (Byte × List Byte) :=
  match message.take (message.length - 2) with
  | [] => none
  | type :: body =>
    if message.drop (message.length - 2) = be16 (crc16 (type :: body)) then some (type, body) else none

/-- A far superframe number and a header profile, present together (R22). -/
structure Header where
  number : Superframe
  profile : Nat
  deriving DecidableEq, Repr

/-- The fields of a Branch Report as they arrive (R22, R188). -/
structure Report where
  locked : Bool
  rawSnr : Nat
  rsl : Int
  errored : Nat
  header : Option Header
  word : Option (List Byte)
  deriving DecidableEq, Repr

/-- The fields of a Branch Report body; its length agrees with the word-present flag (R183, R188). -/
def Report.parse (body : List Byte) : Option Report :=
  match body with
  | b0 :: b1 :: b2 :: b3 :: b4 :: b5 :: b6 :: b7 :: b8 :: word =>
    if word.length = (if b0.getLsbD 5 then 14 else 0) then
      some
        { locked := b0.getLsbD 7
          rawSnr := (b0.extractLsb' 0 2 ++ b1).toNat
          rsl := (b2 ++ b3).toInt
          errored := (b4 ++ b5).toNat
          header := if b0.getLsbD 6 then some ⟨b6 ++ b7, (b8.extractLsb' 0 4).toNat⟩ else none
          word := if b0.getLsbD 5 then some word else none }
    else none
  | _ => none

/-- The Branch Report that a Modem Link hands to its monitor, none when the message is discarded (R183). -/
def receiveReport (message : List Byte) : Option Report :=
  match openMessage message with
  | some (type, body) => if type = 0x01#8 then Report.parse body else none
  | none => none

/-- The message of a Branch Report, as a demodulator sends it (R188). -/
def Report.message (r : Report) : List Byte :=
  sealMessage 0x01#8
    ([BitVec.ofBool r.locked ++ BitVec.ofBool r.header.isSome ++ BitVec.ofBool r.word.isSome ++ 0#3
        ++ (BitVec.ofNat 10 r.rawSnr).extractLsb' 8 2,
      (BitVec.ofNat 10 r.rawSnr).extractLsb' 0 8]
      ++ beInt16 r.rsl ++ be16 (BitVec.ofNat 16 r.errored)
      ++ be16 ((r.header.map (·.number)).getD 0#16)
      ++ [0#4 ++ BitVec.ofNat 4 ((r.header.map (·.profile)).getD 0)]
      ++ r.word.getD [])

/-- The slot number of a Transmit Slot Request; Link B does not carry that type (R183, R184, R188). -/
def receiveSlotRequest (link : Branch) (message : List Byte) : Option Superframe :=
  match link, openMessage message with
  | .a, some (type, [b0, b1]) => if type = 0x02#8 then some (b0 ++ b1) else none
  | _, _ => none

/-- The message of a Transmit Slot Request, as the modulator sends it (R188). -/
def slotRequestMessage (n : Superframe) : List Byte := sealMessage 0x02#8 (be16 n)

/-- Whether a message is a CAPACITY READ (R184, R189). -/
def receiveCapacityRead (message : List Byte) : Bool :=
  match openMessage message with
  | some (type, []) => decide (type = 0x21#8)
  | _ => false

/-- The message of a CAPACITY READ, as the scheduler sends it. -/
def capacityReadMessage : List Byte := sealMessage 0x21#8 []

/-- The profile a DRAIN READY names; bits 7 to 4 are spare (R189). -/
def receiveDrainReady (message : List Byte) : Option (BitVec 4) :=
  match openMessage message with
  | some (type, [b0]) => if type = 0x22#8 then some (b0.extractLsb' 0 4) else none
  | _ => none

/-- The message of a DRAIN READY, as the scheduler sends it. -/
def drainReadyMessage (p : BitVec 4) : List Byte := sealMessage 0x22#8 [0#4 ++ p]

/-! ### Orders to the modems (R188) -/

/-- The code of a Branch Order (R188). -/
def BranchOrder.code : BranchOrder → Byte
  | .a => 0#8
  | .b => 1#8
  | .combine => 2#8

/-- The body of a Receive Order (R188). -/
def ReceiveOrder.body (o : ReceiveOrder) : List Byte :=
  [BitVec.ofBool o.start.isNone ++ 0#3 ++ BitVec.ofNat 4 o.profile]
    ++ be16 (o.start.getD 0#16) ++ [o.modulation ++ 0#1 ++ o.codeClass]

/-- The body of a Transmit Order (R188). -/
def TransmitOrder.body (o : TransmitOrder) : List Byte :=
  match o.content with
  | none => be16 o.slot ++ [0x80#8, 0#8, byteOf o.attenuation]
  | some t =>
    be16 o.slot ++ [0#4 ++ BitVec.ofNat 4 t.profile, t.modulation ++ 0#1 ++ t.codeClass,
      byteOf o.attenuation] ++ t.word

/-- A message as it leaves on a Modem Link (R184). -/
def ModemMessage.bytes : ModemMessage → List Byte
  | .receive o => sealMessage 0x11#8 o.body
  | .branch o => sealMessage 0x12#8 [o.code]
  | .transmit o => sealMessage 0x13#8 o.body

/-! ### Messages to the scheduler (R189) -/

/-- Bytes 8 to 15 of a record: the tx pending kind and the fields under it (R189). -/
def TxPending.bytes : TxPending → List Byte
  | .none => [0#8, 0xFF#8] ++ be32 0xFFFFFFFF#32 ++ be16 0#16
  | .drainRequested p k => [1#8, byteOf p] ++ be32 (BitVec.ofNat 32 k) ++ be16 0#16
  | .committed p k n => [2#8, byteOf p] ++ be32 (BitVec.ofNat 32 k) ++ be16 n

/-- Bytes 21 to 28 of a record (R189). -/
def RxPending.bytes : RxPending → List Byte
  | .none => [0#8, 0xFF#8] ++ be32 0xFFFFFFFF#32 ++ be16 0#16
  | .committed p k n => [1#8, byteOf p] ++ be32 (BitVec.ofNat 32 k) ++ be16 n

/-- The 29 record bytes (R183, R189). -/
def CapacityRecord.bytes (r : CapacityRecord) : List Byte :=
  be16 r.generation ++ [byteOf r.link, byteOf r.txProfile] ++ be32 (BitVec.ofNat 32 r.txCapacity)
    ++ r.tx.bytes ++ [byteOf r.rxProfile] ++ be32 (BitVec.ofNat 32 r.rxCapacity) ++ r.rx.bytes

/-- A CAPACITY RECORD message that ended normally: the 29 record bytes and COMPLETE (R183). -/
def completeRecordMessage (r : CapacityRecord) : List Byte := sealMessage 0x31#8 (r.bytes ++ [0#8])

/-- A CAPACITY RECORD message ended after `sent` record bytes: those bytes and ABORTED (R183). -/
def abortedRecordMessage (r : CapacityRecord) (sent : Nat) : List Byte :=
  sealMessage 0x31#8 (r.bytes.take sent ++ [1#8])

/-- The code of a DRAIN READY's result (R189). -/
def DrainResult.code : DrainResult → Byte
  | .accepted => 0#8
  | .late => 1#8

/-- A reply as it leaves (R184, R189). -/
def Reply.bytes : Reply → List Byte
  | .busy => sealMessage 0x32#8 []
  | .drainAnswer result p g => sealMessage 0x33#8 ([result.code, 0#4 ++ p] ++ be16 g)

/-- A Capacity Alert as it leaves (R189). -/
def CapacityAlert.bytes (x : CapacityAlert) : List Byte :=
  sealMessage 0x34#8
    ([if x.switch.isSome then 1#8 else 0#8, byteOf x.profile] ++ be32 (BitVec.ofNat 32 x.capacity)
      ++ be16 (x.switch.getD 0#16) ++ be16 x.generation)

/-! ### Control Link frames (R166, R168, R190) -/

/-- A frame of the Control Link: code, length, body, CRC-16 over the three (R190). -/
def controlFrame (code : Byte) (body : List Byte) : List Byte :=
  (code :: byteOf body.length :: body) ++ be16 (crc16 (code :: byteOf body.length :: body))

/-- Whether a frame is complete: its length byte, and as many further bytes as it announces plus two (R166). -/
def frameComplete (bytes : List Byte) : Bool :=
  match bytes with
  | _ :: len :: rest => decide (rest.length = len.toNat + 2)
  | _ => false

/-- The reasons of REFUSED_INVALID (R190). -/
inductive InvalidReason where
  | count
  | modulation
  | referenceDisabled
  | capacityOrder
  | downOrder
  | upOrder
  | upMargin
  | indexRange
  deriving DecidableEq, Repr

/-- The codes of the reasons (R190). -/
def InvalidReason.code : InvalidReason → Byte
  | .count => 1#8
  | .modulation => 2#8
  | .referenceDisabled => 3#8
  | .capacityOrder => 4#8
  | .downOrder => 5#8
  | .upOrder => 6#8
  | .upMargin => 7#8
  | .indexRange => 8#8

/-- A response (R168). -/
inductive Response where
  | ok (body : List Byte)
  | clamped (body : List Byte)
  | refusedState
  | refusedNoLadder
  | refusedInTransition
  | refusedInvalid (index : Nat) (reason : InvalidReason)
  | refusedReference
  | refusedProfile
  | refusedInconsistent
  | refusedUnknown
  | refusedFormat
  deriving DecidableEq, Repr

/-- The response frame (R168, R190). -/
def Response.frame : Response → List Byte
  | .ok body => controlFrame 0x00#8 body
  | .clamped body => controlFrame 0x01#8 body
  | .refusedState => controlFrame 0x80#8 []
  | .refusedNoLadder => controlFrame 0x81#8 []
  | .refusedInTransition => controlFrame 0x82#8 []
  | .refusedInvalid index reason => controlFrame 0x83#8 [byteOf index, reason.code]
  | .refusedReference => controlFrame 0x84#8 []
  | .refusedProfile => controlFrame 0x85#8 []
  | .refusedInconsistent => controlFrame 0x86#8 []
  | .refusedUnknown => controlFrame 0x87#8 []
  | .refusedFormat => controlFrame 0x88#8 []

end Sys2Proof.Machine
end

