-- ==== Sys2Proof/Machine/Ops.lean ====
section
/-! DEFINITION. The operations several blocks share: reading the ladder (R6), issuing a message on a Modem Link
(R19), publishing a Capacity Record (R143, R144), sending on the Capacity Link and requesting an alert (R149). -/

namespace Sys2Proof.Machine

/-! ### Reading a ladder copy (R6) -/

/-- The content of a slot. An index of 12 or more has no slot and reads as the blank entry; no rule reads one. -/
def Ladder.slot (l : Ladder) (i : Nat) : Entry := (l.slots[i]?).getD Entry.blank

/-- Whether an index names an enabled entry of the copy (R6). -/
def Ladder.enabledAt (l : Ladder) (i : Nat) : Bool := decide (i < l.count) && (l.slot i).enabled

/-- The next enabled entry above *p* (R6). -/
def Ladder.nextAbove (l : Ladder) (p : Nat) : Option Nat :=
  (List.range Config.slotCount).find? (fun i => decide (p < i) && l.enabledAt i)

/-- The highest enabled entry below *p* that meets a test. -/
def Ladder.highestBelow (l : Ladder) (p : Nat) (test : Entry → Bool) : Option Nat :=
  (List.range Config.slotCount).reverse.find?
    (fun i => decide (i < p) && l.enabledAt i && test (l.slot i))

/-- The copy with every slot at or beyond its count blank (R7, R11, R16). -/
def Ladder.trimmed (l : Ladder) : Ladder :=
  { l with slots := l.slots.mapIdx (fun i e => if i < l.count then e else Entry.blank) }

/-! ### Link state -/

/-- The link state is ADAPTIVE or PINNED. -/
def LinkState.adapting : LinkState → Bool
  | .adaptive => true
  | .pinned _ => true
  | _ => false

/-- The link state is ACQUIRE or FIXED. -/
def LinkState.holding : LinkState → Bool
  | .acquire _ => true
  | .fixed => true
  | _ => false

/-- The code of the link state (R180). -/
def LinkState.code : LinkState → Nat
  | .offline => 0
  | .acquire _ => 1
  | .adaptive => 2
  | .pinned _ => 3
  | .fixed => 4

/-! ### Issuing messages on the Modem Links (R19) -/

/-- A message issued for a link waits behind those before it; for a link that is DOWN it is discarded. -/
def ModemLink.issue (l : ModemLink) (m : ModemMessage) : ModemLink :=
  if l.up then { l with waiting := l.waiting ++ [m] } else l

/-- Issue a message on one Modem Link. -/
def issue (link : Branch) (m : ModemMessage) (s : State) : State :=
  s.withModem (s.modem.set link ((s.modem.get link).issue m))

/-- Issue a message on both Modem Links. -/
def issueBoth (m : ModemMessage) (s : State) : State := issue .b m (issue .a m s)

/-- A Receive Order naming profile `p`, its modulation and code class read from the active ladder (R109). -/
def receiveOrder (start : Option Superframe) (p : Nat) (s : State) : ModemMessage :=
  .receive ⟨start, p, (s.ladder.active.slot p).modulation, (s.ladder.active.slot p).codeClass⟩

/-- Send a Receive Order on both Modem Links (R109). -/
def sendReceiveOrder (start : Option Superframe) (p : Nat) (s : State) : State :=
  issueBoth (receiveOrder start p s) s

/-! ### Capacity Records (R142 to R144) -/

/-- The capacity of an active entry as a record shows it: 0 in OFFLINE (R143). -/
def shownCapacity (s : State) (p : Nat) : Nat :=
  if s.link = .offline then 0 else (s.ladder.active.slot p).capacity

/-- The tx pending fields of a record (R143). -/
def txPending (s : State) : TxPending :=
  match s.tae.state with
  | .steady => .none
  | .draining d _ _ => .drainRequested d (shownCapacity s d)
  | .committed k => .committed k.profile (shownCapacity s k.profile) k.switch

/-- The rx pending fields of a record (R143). -/
def rxPending (s : State) : RxPending :=
  match s.rae.commit with
  | none => .none
  | some k => .committed k.profile (shownCapacity s k.profile) k.switch

/-- The record of this moment, carrying a generation (R143). -/
def recordNow (generation : BitVec 16) (s : State) : CapacityRecord where
  generation := generation
  link := s.link.code
  txProfile := s.tae.c
  txCapacity := shownCapacity s s.tae.c
  tx := txPending s
  rxProfile := s.rae.e
  rxCapacity := shownCapacity s s.rae.e
  rx := rxPending s

/-- The content of a buffer. -/
def CapacityLink.buffer (k : CapacityLink) : Buffer → CapacityRecord
  | .b0 => k.buffer0
  | .b1 => k.buffer1
  | .b2 => k.buffer2

/-- A buffer qualifies for a publication when it is neither the newest nor the held one (R144 step 1). -/
def CapacityLink.free (k : CapacityLink) (b : Buffer) : Bool :=
  decide (b ≠ k.newest) && decide (some b ≠ k.held)

/-- The buffer a publication writes: the qualifying one of lowest index (R144 step 1). -/
def CapacityLink.choice (k : CapacityLink) : Buffer :=
  if k.free .b0 then .b0 else if k.free .b1 then .b1 else .b2

/-- Write a buffer. -/
def CapacityLink.write (k : CapacityLink) (b : Buffer) (r : CapacityRecord) : CapacityLink :=
  match b with
  | .b0 => { k with buffer0 := r }
  | .b1 => { k with buffer1 := r }
  | .b2 => { k with buffer2 := r }

/-- A publication (R144). -/
def publish (s : State) : State :=
  s.withCapacity
    { s.capacity.write s.capacity.choice (recordNow (s.capacity.generation + 1) s) with
      newest := s.capacity.choice
      generation := s.capacity.generation + 1 }

/-! ### Sending on the Capacity Link (R145, R149, R150) -/

/-- A message to the scheduler leaves whole. -/
def sendCapacity (bytes : List Byte) (s : State) : State :=
  s.withSent { s.sent with capacity := s.sent.capacity ++ [bytes] }

/-- A reply is sent at once when the outgoing direction is IDLE and joins the reply list when it is SENDING
(R148, R150). -/
def reply (r : Reply) (s : State) : State :=
  match s.capacity.held with
  | none => sendCapacity r.bytes s
  | some _ => s.withCapacity { s.capacity with replies := s.capacity.replies ++ [r] }

/-- A formed alert is discarded, sent or kept as the waiting alert (R149). -/
def placeAlert (x : CapacityAlert) (s : State) : State :=
  if s.capacity.framing then
    match s.capacity.held with
    | none => sendCapacity x.bytes s
    | some _ => s.withCapacity { s.capacity with alert := some x }
  else s

/-- A requested Capacity Alert naming profile `p`, formed from the newest record's generation: COMMIT with a
switch superframe, DRAIN without one (R149). -/
def requestAlert (p : Nat) (switch : Option Superframe) (s : State) : State :=
  placeAlert
    ⟨p, (s.ladder.active.slot p).capacity, switch, (s.capacity.buffer s.capacity.newest).generation⟩ s

end Sys2Proof.Machine
end

