-- ==== Sys2Proof/Machine/Transmit.lean ====
section
/-! DEFINITION. The Transmit Adaptation Engine (chapter 7): commits, drains, the fallback, the peer's requests,
the attenuation executor, and its strobe. The slot request is in SlotRequest.lean, DRAIN READY in
CapacityLink.lean. -/

namespace Sys2Proof.Machine

/-! ### Commits (R129) -/

/-- The emergency lead in force: the smaller of the emergency lead and the commit lead (R120). -/
def emergencyLead (s : State) : Nat := min s.params.emergencyLead s.params.commitLead

/-- The pending outgoing commit (R118). -/
def Tae.commit? (t : Tae) : Option Commit :=
  match t.state with
  | .committed k => some k
  | _ => none

/-- Count what a commit to `p` counts: downward ones made otherwise than on an accepted DRAIN READY, and
downward ones made on a request of kind EMERGENCY (R129). -/
def TaeCounters.countCommit (k : TaeCounters) (downward confirmed emergency : Bool) : TaeCounters :=
  { k with
    unconfirmedDownshifts := k.unconfirmedDownshifts + (if downward && !confirmed then 1#32 else 0#32)
    emergencies := k.emergencies + (if downward && emergency then 1#32 else 0#32) }

/-- A commit to `p` with a lead, less its alert (R129). A commit is always made with *n*_last set (R119); with
*n*_last unset none is made. -/
def recordCommit (p lead : Nat) (confirmed emergency : Bool) (s : State) : State :=
  match s.tae.lastSlot with
  | none => s
  | some n =>
    publish
      (s.withTae
        { s.tae with
          state := .committed ⟨p, plusLead n lead⟩
          counters := s.tae.counters.countCommit (decide (p < s.tae.c)) confirmed emergency })

/-- The Capacity Alert of a downward commit (R129). -/
def commitAlert (s : State) : State :=
  match s.tae.state with
  | .committed k => if k.profile < s.tae.c then requestAlert k.profile (some k.switch) s else s
  | _ => s

/-- A commit with its alert (R129). -/
def makeCommit (p lead : Nat) (confirmed emergency : Bool) (s : State) : State :=
  commitAlert (recordCommit p lead confirmed emergency s)

/-- The drain or the commit ends: the TAE state becomes STEADY, and with it the drain target is absent, the
drain timer 0 and the drain limit absent (R118, R127, R132). -/
def becomeSteady (s : State) : State := s.withTae { s.tae with state := .steady }

/-! ### Completion (R122) -/

/-- Count a completed switch from `old` to `new` (R122). -/
def TaeCounters.countSwitch (k : TaeCounters) (old new : Nat) : TaeCounters :=
  { k with
    upSwitches := k.upSwitches + (if old < new then 1#32 else 0#32)
    downSwitches := k.downSwitches + (if new < old then 1#32 else 0#32) }

/-- The switch to `q` is completed (R122). -/
def completeSwitch (q : Nat) (s : State) : State :=
  publish
    (raise .profileChangedTx
      (s.withTae
        { s.tae with c := q, state := .steady, counters := s.tae.counters.countSwitch s.tae.c q }))

/-! ### Fallback (R132) -/

/-- "*N* is after *n*_last". With *n*_last unset the comparison does not hold (R3). -/
def afterLastSlot (n : Superframe) (t : Tae) : Bool :=
  match t.lastSlot with
  | none => false
  | some l => isAfter n l

/-- The fallback, by the first row of R132 that applies. -/
def fallback (s : State) : State :=
  match s.tae.commit? with
  | none =>
    if s.tae.c = 0 then s else makeCommit 0 (emergencyLead s) false false (becomeSteady s)
  | some k =>
    if afterLastSlot k.switch s.tae then
      if s.tae.c = 0 then
        if 0 < k.profile then publish (becomeSteady s) else s
      else if k.profile = 0 then s
      else makeCommit 0 (emergencyLead s) false false (becomeSteady s)
    else s.withTae { s.tae with fallbackOwed := true }

/-! ### Requests from the far end (R124 to R128) -/

/-- The target profile of a request, none when it is ignored as a bad request (R125). -/
def targetOf (l : Ladder) (c p : Nat) : Option Nat :=
  if l.count ≤ p then none
  else if c < p then l.nextAbove c
  else if p = c then some c
  else if l.enabledAt p then some p
  else some ((l.highestBelow p (fun _ => true)).getD 0)

/-- A drain toward `p` starts (R126). -/
def startDrain (p : Nat) (s : State) : State :=
  requestAlert p none
    (publish (s.withTae { s.tae with state := .draining p 0 s.params.drainTimeout }))

/-- A drain is moved to a deeper target (R127). -/
def retarget (p timer limit : Nat) (s : State) : State :=
  requestAlert p none (publish (s.withTae { s.tae with state := .draining p timer limit }))

/-- A target in STEADY (R126). -/
def targetSteady (p : Nat) (kind : RequestKind) (s : State) : State :=
  if p = s.tae.c then s
  else if s.tae.c < p then makeCommit p s.params.commitLead false false s
  else if kind = .emergency then makeCommit p (emergencyLead s) false true s
  else startDrain p s

/-- A target in DRAINING (R127). -/
def targetDraining (d timer limit p : Nat) (kind : RequestKind) (s : State) : State :=
  if s.tae.c ≤ p then targetSteady p kind (publish (becomeSteady s))
  else if kind = .emergency then makeCommit p (emergencyLead s) false true (becomeSteady s)
  else if p < d then retarget p timer limit s
  else s

/-- A target in COMMITTED: an EMERGENCY downshift below *q* while *N* is after *n*_last supersedes (R128). -/
def targetCommitted (k : Commit) (p : Nat) (kind : RequestKind) (s : State) : State :=
  if p < s.tae.c && decide (kind = .emergency) && decide (p < k.profile) && afterLastSlot k.switch s.tae then
    makeCommit p (emergencyLead s) false true s
  else s

/-- A target is handled by the TAE state (R124 row 4). -/
def handleTarget (p : Nat) (kind : RequestKind) (s : State) : State :=
  match s.tae.state with
  | .steady => targetSteady p kind s
  | .draining d timer limit => targetDraining d timer limit p kind s
  | .committed k => targetCommitted k p kind s

/-- A request ignored by filtering is counted (R125). -/
def countBadRequest (s : State) : State :=
  s.withTae
    { s.tae with counters := { s.tae.counters with badRequests := s.tae.counters.badRequests + 1 } }

/-- The peer request is taken, by the first row of R124 that applies. -/
def takeRequest (r : Request) (s : State) : State :=
  if s.link.adapting && decide (r.kind ≠ .none) && s.tae.lastSlot.isSome then
    match targetOf s.ladder.active s.tae.c r.profile with
    | none => countBadRequest s
    | some p => handleTarget p r.kind s
  else s

/-! ### Attenuation (R136 to R138) -/

/-- Set the attenuation. -/
def setAttenuation (a : Nat) (s : State) : State := s.withTae { s.tae with attenuation := a }

/-- An accepted word whose power request is MAX, while ATPC enable is on (R138). -/
def takePower (p : PowerRequest) (s : State) : State :=
  if decide (p = .max) && s.params.atpc then setAttenuation s.params.attMin s else s

/-- The TAE's part of stage 5 of an accepted word: the power request, then the request (R124). -/
def taeHandOff (f : PeerFields) (s : State) : State := takeRequest f.request (takePower f.power s)

/-- The attenuation after a slew step (R137). -/
def slewed (p : Params) (request : PowerRequest) (a : Nat) : Nat :=
  if p.atpc then
    match request with
    | .hold => a
    | .raise => max p.attMin (a - 1)
    | .lower => min p.attMax (a + 1)
    | .max => p.attMin
  else a

/-- The slew interval *S* (R137). -/
def slewInterval (p : Params) : Nat := 2 ^ p.slewIndex

/-- This strobe is a slew point (R137). -/
def slewPoint (s : State) : Bool := decide (slewInterval s.params ≤ s.tae.slew + 1)

/-- The slew counter and the slew step of a strobe (R137). -/
def slewStrobe (s : State) : State :=
  if slewPoint s then
    s.withTae
      { s.tae with slew := 0, attenuation := slewed s.params s.peer.fields.power s.tae.attenuation }
  else s.withTae { s.tae with slew := s.tae.slew + 1 }

/-! ### The strobe (R131, R137) -/

/-- This strobe times the drain out (R131). -/
def drainTimesOut (s : State) : Bool :=
  match s.tae.state with
  | .draining _ timer limit => decide (limit ≤ timer + 1)
  | _ => false

/-- A drain toward `d` times out (R131). -/
def timeOutDrain (d : Nat) (s : State) : State :=
  makeCommit d s.params.commitLead false false
    (becomeSteady
      (raise .drainTimeout
        (s.withTae
          { s.tae with
            counters := { s.tae.counters with drainTimeouts := s.tae.counters.drainTimeouts + 1 } })))

/-- The drain timer of a strobe (R131). -/
def drainStrobe (s : State) : State :=
  match s.tae.state with
  | .draining d timer limit =>
    if limit ≤ timer + 1 then timeOutDrain d s
    else s.withTae { s.tae with state := .draining d (timer + 1) limit }
  | _ => s

/-- A strobe at the TAE (R131, R137). -/
def taeStrobe (s : State) : State := slewStrobe (drainStrobe s)

/-- TAE_STROBE (R131, R137). -/
def execTaeStrobe (s : State) : Host.Outcome State Fault Refusal := .next (taeStrobe s)

/-- DRAIN_TIMEOUT: the strobe at the TAE when it is the one that times the drain out (R131); otherwise no such
strobe has come about and nothing changes (assumption 2). -/
def execDrainTimeout (s : State) : Host.Outcome State Fault Refusal :=
  .next (if drainTimesOut s then taeStrobe s else s)

/-- SLEW_STEP: the strobe at the TAE when it is a slew point (R137, assumption 2). -/
def execSlewStep (s : State) : Host.Outcome State Fault Refusal :=
  .next (if slewPoint s then taeStrobe s else s)

end Sys2Proof.Machine
end

