-- ==== Sys2Proof/Machine/CapacityLink.lean ====
section
/-! DEFINITION. The Capacity Link Interface (chapter 8): reads, DRAIN READY, the end of a read and the link
reset. Publications and alerts are in Ops.lean. -/

namespace Sys2Proof.Machine

/-- CAPACITY_LINK_UP (R145). -/
def execCapacityLinkUp (s : State) : Host.Outcome State Fault Refusal :=
  .next (s.withCapacity { s.capacity with framing := true })

/-- The read in flight is ended early: ABORTED after the record bytes already sent (R151, R152, R183). -/
def abortRead (recordBytesSent : Nat) (s : State) : State :=
  match s.capacity.held with
  | none => s
  | some b => sendCapacity (abortedRecordMessage (s.capacity.buffer b) recordBytesSent) s

/-- Framing is lost on a link that is UP (R151). -/
def capacityReset (recordBytesSent : Nat) (s : State) : State :=
  (abortRead recordBytesSent s).withCapacity
    { s.capacity with framing := false, held := none, replies := [], alert := none }

/-- CAPACITY_LINK_RESET (R145, R151). On a link already DOWN there is no transition and nothing changes. -/
def execCapacityLinkReset (recordBytesSent : Fin 30) (s : State) : Host.Outcome State Fault Refusal :=
  .next (if s.capacity.framing then capacityReset recordBytesSent.val s else s)

/-- A command that would add a reply to a full list is discarded (R148). -/
def replyListFull (s : State) : Bool :=
  s.capacity.held.isSome && decide (Config.replyListSize ≤ s.capacity.replies.length)

/-- A command is taken from the scheduler: the framing is UP, and the reply list can take its reply
(R145, R148). -/
def capacityTakes (s : State) : Bool := s.capacity.framing && !replyListFull s

/-- A CAPACITY READ that is taken (R146). -/
def startRead (s : State) : State :=
  match s.capacity.held with
  | none => s.withCapacity { s.capacity with held := some s.capacity.newest }
  | some _ => reply .busy s

/-- CAPACITY_READ (R146). -/
def execCapacityRead (message : List Byte) (s : State) : Host.Outcome State Fault Refusal :=
  .next (if receiveCapacityRead message && capacityTakes s then startRead s else s)

/-- The replies of the list leave, oldest first (R147). -/
def sendReplies (replies : List Reply) (s : State) : State :=
  replies.foldl (fun t r => sendCapacity r.bytes t) s

/-- The waiting alert leaves (R147). -/
def sendAlert (alert : Option CapacityAlert) (s : State) : State :=
  match alert with
  | some x => sendCapacity x.bytes s
  | none => s

/-- The end of the read of a buffer (R147): the record message closes with COMPLETE, then the reply list and the
waiting alert leave. -/
def endRead (b : Buffer) (s : State) : State :=
  (sendAlert s.capacity.alert
      (sendReplies s.capacity.replies
        (sendCapacity (completeRecordMessage (s.capacity.buffer b)) s))).withCapacity
    { s.capacity with held := none, replies := [], alert := none }

/-- END_OF_READ (R147). With no read in flight no record message ends and nothing changes. -/
def execEndOfRead (s : State) : Host.Outcome State Fault Refusal :=
  .next
    (match s.capacity.held with
     | some b => endRead b s
     | none => s)

/-- The answer to a DRAIN READY, formed with the generation of the newest record (R150). -/
def drainAnswer (result : DrainResult) (p : BitVec 4) (s : State) : State :=
  reply (.drainAnswer result p (s.capacity.buffer s.capacity.newest).generation) s

/-- A DRAIN READY is late: it is counted and answered LATE (R130). -/
def answerLate (p : BitVec 4) (s : State) : State :=
  drainAnswer .late p
    (s.withTae
      { s.tae with counters := { s.tae.counters with lateAnswers := s.tae.counters.lateAnswers + 1 } })

/-- A DRAIN READY is accepted: the drain ends, the commit is made, the answer leaves or joins the list, and the
commit's alert comes after it (R130, R150). -/
def answerAccepted (p : BitVec 4) (s : State) : State :=
  commitAlert
    (drainAnswer .accepted p (recordCommit p.toNat s.params.commitLead true false (becomeSteady s)))

/-- The TAE is draining toward this profile (R130). -/
def drainsToward (p : Nat) (s : State) : Bool :=
  match s.tae.state with
  | .draining d _ _ => decide (p = d)
  | _ => false

/-- A DRAIN READY that is taken (R130, R150). -/
def handleDrainReady (p : BitVec 4) (s : State) : State :=
  if drainsToward p.toNat s then answerAccepted p s else answerLate p s

/-- DRAIN_READY (R130, R150). -/
def execDrainReady (message : List Byte) (s : State) : Host.Outcome State Fault Refusal :=
  .next
    (match receiveDrainReady message with
     | some p => if capacityTakes s then handleDrainReady p s else s
     | none => s)

end Sys2Proof.Machine
end

