-- ==== Sys2Proof/Machine/Receive.lean ====
section
/-! DEFINITION. The Receive Adaptation Engine (chapter 6): prediction, the four decision steps, the merge, the
stall counter, commits seen, headers and overflow notices. Its evaluation is run by Evaluation.lean. -/

namespace Sys2Proof.Machine

/-! ### Readings of the engine (R89, R90) -/

/-- The request is downward (R89). -/
def Request.downward (e : Nat) (r : Request) : Bool := decide (r.kind ≠ .none) && decide (r.profile < e)

/-- The RAE is REQUESTING (R89). -/
def Rae.requesting (r : Rae) : Bool := r.commit.isNone && decide (r.request.kind ≠ .none)

/-- The profile expected for far superframe `m` (R90). -/
def Rae.expectedFor (r : Rae) (m : Superframe) : Nat :=
  match r.commit with
  | some k => if atOrAfter m k.switch then k.profile else r.e
  | none => r.e

/-- Clearing what every change of *e* clears: time at profile and the upshift dwell count (R105). -/
def Rae.arrivedAt (r : Rae) (e : Nat) : Rae := { r with e := e, timeAtProfile := 0, dwell := 0 }

/-- A request whose profile the new *e* reaches becomes (*e*, NONE); another is kept (R111, R113). -/
def Request.settle (r : Request) (e : Nat) : Request := if r.profile = e then ⟨e, .none⟩ else r

/-! ### Prediction and the power rule (R93, R103) -/

/-- The predicted value of an estimate (R93). -/
def predict (horizon : Nat) (x : Estimate) : Nat :=
  (clampInt 0 Config.snrMax
    (x.snr + (if x.slope < 0 then x.slope * horizon / 10 else 0))).toNat

/-- The RSL rule (R103). -/
def rslRule (p : Params) (x : Option Estimate) : PowerRequest :=
  match p.atpc, x with
  | false, _ => .hold
  | true, none => .hold
  | true, some g =>
    if g.rsl < p.rslLow then .raise else if p.rslHigh < g.rsl then .lower else .hold

/-! ### The decision steps (R97 to R101) -/

/-- What an evaluation in adaptive operation settles: the candidate (none is *hold*), the power request,
POWER_DEFERRED and the upshift dwell count. -/
structure Decision where
  candidate : Option Request
  power : PowerRequest
  deferred : Bool
  dwell : Nat
  deriving DecidableEq, Repr

/-- The outage step, and the burst step with the same candidate (R97, R98). -/
def decideEmergency (r : Rae) : Decision where
  candidate := if r.e ≠ 0 ∨ r.commit.isSome then some ⟨0, .emergency⟩ else none
  power := .max
  deferred := false
  dwell := 0

/-- The downshift target *t* (R99). -/
def downshiftTarget (l : Ladder) (e predicted : Nat) : Nat :=
  (l.highestBelow e (fun x => decide (x.down ≤ predicted))).getD 0

/-- LONG_FADE and FAST_FADING are both clear on every branch that governs (R48). -/
def fadeFlagsClear (f : PerBranch FadeClassifier) (g : Governing) : Bool :=
  match g with
  | .one l => !(f.get l).longFade && !(f.get l).fastFading
  | .both => !f.a.longFade && !f.a.fastFading && !f.b.longFade && !f.b.fastFading

/-- Power deferral applies (R100). -/
def deferralApplies (s : State) (g : Governing) (predicted : Nat) : Bool :=
  s.params.atpc && decide (0 < s.peer.fields.headroom) && fadeFlagsClear s.fade g
    && decide ((s.ladder.active.slot s.rae.e).down - predicted ≤ 5 * s.peer.fields.headroom)
    && !s.rae.request.downward s.rae.e

/-- The downshift step is taken (R99). -/
def downshiftTaken (s : State) (predicted : Nat) : Bool :=
  decide (0 < s.rae.e) && decide (predicted < (s.ladder.active.slot s.rae.e).down)

/-- The downshift step (R99, R100). -/
def decideDownshift (s : State) (x : Estimate) (predicted : Nat) : Decision :=
  if deferralApplies s x.governing predicted then ⟨none, .raise, true, 0⟩
  else
    ⟨some ⟨downshiftTarget s.ladder.active s.rae.e predicted, .normal⟩, rslRule s.params (some x), false, 0⟩

/-- The required dwell *D*: four times the upshift dwell, capped, while FAST_FADING is set on a usable branch
(R47, R101). -/
def requiredDwell (s : State) : Nat :=
  if (s.selector.usable.a && s.fade.a.fastFading) || (s.selector.usable.b && s.fade.b.fastFading) then
    min Config.dwellMax (4 * s.params.upshiftDwell)
  else s.params.upshiftDwell

/-- The entry *u* the upshift step counts toward: the next enabled entry above *e*, when no commit is pending
and the predicted value has reached its up threshold (R101). -/
def upshiftEntry (s : State) (predicted : Nat) : Option Nat :=
  match s.rae.commit, s.ladder.active.nextAbove s.rae.e with
  | none, some u => if (s.ladder.active.slot u).up ≤ predicted then some u else none
  | _, _ => none

/-- The dwell count and the time at profile that the upshift needs are reached, with this evaluation's
increment of the dwell count (R101). -/
def upshiftRipe (s : State) : Bool :=
  decide (requiredDwell s ≤ succSat Config.dwellMax s.rae.dwell)
    && decide ((s.ladder.active.slot s.rae.e).minDwell ≤ s.rae.timeAtProfile)

/-- The upshift step (R101). -/
def decideUpshift (s : State) (x : Estimate) (predicted : Nat) : Decision :=
  match upshiftEntry s predicted with
  | some u =>
    ⟨if upshiftRipe s then some ⟨u, .normal⟩ else none, rslRule s.params (some x), false,
      succSat Config.dwellMax s.rae.dwell⟩
  | none => ⟨none, rslRule s.params (some x), false, 0⟩

/-- The four decision steps, in ADAPTIVE with peer adapt yes, on the estimate of this evaluation and its
prediction (R97 to R101). -/
def decideAdaptive (s : State) : Decision :=
  match s.selector.estimate with
  | none => decideEmergency s.rae
  | some x =>
    if s.rae.overflowNoted then decideEmergency s.rae
    else if downshiftTaken s (predict s.params.horizon x) then
      decideDownshift s x (predict s.params.horizon x)
    else decideUpshift s x (predict s.params.horizon x)

/-- A shift candidate is more urgent than a standing request (R102). -/
def moreUrgent (candidate standing : Request) : Bool :=
  (decide (candidate.kind = .emergency) && decide (standing.kind = .normal))
    || (decide (candidate.kind = standing.kind) && decide (candidate.profile < standing.profile))

/-- The merge of the candidate with the standing request (R102). -/
def mergeRequest (e : Nat) (standing : Request) (candidate : Option Request) : Request :=
  match candidate with
  | none => if standing.downward e then standing else ⟨e, .none⟩
  | some k => if standing.downward e && !moreUrgent k standing then standing else k

/-! ### The evaluation's decisions by link state (R92 step 3) -/

/-- The engine after a decision with a request set directly (R94 to R96). -/
def Rae.direct (r : Rae) (request : Request) (power : PowerRequest) : Rae :=
  { r with request := request, power := power, deferred := false, dwell := 0 }

/-- The request asked for directly: `p` with kind NORMAL, or (*e*, NONE) when *e* is `p` (R94, R95). -/
def askFor (p e : Nat) : Request := if e = p then ⟨e, .none⟩ else ⟨p, .normal⟩

/-- Step 3 of the evaluation. -/
def decideRequest (s : State) : Rae :=
  match s.link with
  | .offline => s.rae
  | .acquire _ => s.rae.direct (askFor 0 s.rae.e) (rslRule s.params s.selector.estimate)
  | .fixed => s.rae.direct (askFor 0 s.rae.e) (rslRule s.params s.selector.estimate)
  | .pinned p => s.rae.direct (askFor p s.rae.e) (rslRule s.params s.selector.estimate)
  | .adaptive =>
    if s.peer.fields.adapt then
      { s.rae with
        request := mergeRequest s.rae.e s.rae.request (decideAdaptive s).candidate
        power := (decideAdaptive s).power
        deferred := (decideAdaptive s).deferred
        dwell := (decideAdaptive s).dwell }
    else s.rae.direct ⟨s.rae.e, .none⟩ (rslRule s.params s.selector.estimate)

/-- Steps 1 and 2: time at profile and the prediction (R92). The first evaluation after an UNPIN has its upshift dwell
count at 0 (R159). -/
def evaluationBegins (s : State) : State :=
  (s.withRae
    { s.rae with
      dwell := if s.unpinned then 0 else s.rae.dwell
      timeAtProfile := succSat Config.dwellMax s.rae.timeAtProfile
      predicted := s.selector.estimate.map (predict s.params.horizon) }).withUnpinned false

/-- The evaluation takes the stall counter to the stall limit for the first time in the request period, read
after step 3 (R106). -/
def stallReached (s : State) : Bool :=
  s.rae.requesting && decide (s.params.stallLimit ≤ succSat Config.stallMax s.rae.stall)
    && !s.rae.stallReported

/-- Step 4: the stall counter (R106). -/
def stallStep (s : State) : State :=
  if s.rae.requesting then
    raiseIf (stallReached s) .requestStalled
      (s.withRae
        { s.rae with
          stall := succSat Config.stallMax s.rae.stall
          stallReported := s.rae.stallReported || stallReached s })
  else s.withRae { s.rae with stall := 0, stallReported := false }

/-- Step 5: overflow noted becomes no (R92). -/
def dropOverflow (s : State) : State := s.withRae { s.rae with overflowNoted := false }

/-- Steps 1 to 3 of the evaluation (R92). -/
def evaluationDecides (s : State) : State :=
  (evaluationBegins s).withRae (decideRequest (evaluationBegins s))

/-- The RAE's evaluation on the hand-off of the selector (R92). -/
def raeEvaluate (s : State) : State :=
  if s.link = .offline then s else dropOverflow (stallStep (evaluationDecides s))

/-- This evaluation reaches the upshift step and yields the upshift candidate, on the state the selector hands
over (R101). -/
def upshiftReached (s : State) : Bool :=
  decide (s.link = .adaptive) && s.peer.fields.adapt &&
    match s.selector.estimate with
    | none => false
    | some x =>
      !s.rae.overflowNoted && !downshiftTaken s (predict s.params.horizon x)
        && (upshiftEntry s (predict s.params.horizon x)).isSome && upshiftRipe (evaluationBegins s)

/-! ### Burst overflow notices (R104) -/

/-- A burst overflow notice at the RAE; dropped in OFFLINE (R104). -/
def raeOverflow (s : State) : State :=
  if s.link = .offline then s else s.withRae { s.rae with overflowNoted := true }

/-! ### Commits seen (R107, R108) -/

/-- The commit of an accepted word, by the first row of R107 that applies. -/
def seeCommit (k : Option Commit) (s : State) : State :=
  match k with
  | none => s
  | some k =>
    if !s.ladder.active.enabledAt k.profile then
      s.withRae
        { s.rae with
          counters := { s.rae.counters with ignoredCommits := s.rae.counters.ignoredCommits + 1 } }
    else if s.rae.commit = some k then s
    else if k.profile = s.rae.e then
      match s.rae.commit with
      | none => s
      | some _ =>
        publish (sendReceiveOrder (some k.switch) s.rae.e (s.withRae { s.rae with commit := none }))
    else
      publish (sendReceiveOrder (some k.switch) k.profile (s.withRae { s.rae with commit := some k }))

/-! ### Headers (R110 to R113) -/

/-- A header completes the pending commit (R111). -/
def completes (r : Rae) (h : Header) : Bool :=
  match r.commit with
  | some k => atOrAfter h.number k.switch && decide (h.profile = k.profile)
  | none => false

/-- Count a completion from `e` to `q` (R111). -/
def RaeCounters.countSwitch (k : RaeCounters) (e q : Nat) (emergency : Bool) : RaeCounters :=
  { k with
    upSwitches := k.upSwitches + (if e < q then 1#32 else 0#32)
    downSwitches := k.downSwitches + (if q < e then 1#32 else 0#32)
    emergencies := k.emergencies + (if emergency then 1#32 else 0#32) }

/-- Both burst error counters 0, at a switch completion (R34, R111). -/
def clearBursts (s : State) : State :=
  s.withMonitor ⟨{ s.monitor.a with burst := 0 }, { s.monitor.b with burst := 0 }⟩

/-- The completion of the pending commit to `q` (R111). -/
def completeCommit (q : Nat) (s : State) : State :=
  publish
    (raise .profileChangedRx
      ((clearBursts s).withRae
        { s.rae.arrivedAt q with
          commit := none
          follow := 0
          candidate := none
          counters := s.rae.counters.countSwitch s.rae.e q (decide (s.rae.request.kind = .emergency))
          request := s.rae.request.settle q }))

/-- A header is new: the last header superframe is unset, or before `m`, or more than 64 after it (R112). -/
def headerNew (r : Rae) (m : Superframe) : Bool :=
  match r.lastHeader with
  | none => true
  | some l => isAfter m l || decide (Config.headerWindow < (l - m).toNat)

/-- What a new header does to the follow counter and candidate; none when it counts nothing toward a follow
(R112). -/
def followCounted (s : State) (h : Header) : Option Nat :=
  if s.ladder.active.enabledAt h.profile && decide (h.profile ≠ s.rae.expectedFor h.number) then
    some (if s.rae.candidate = some h.profile then s.rae.follow + 1 else 1)
  else none

/-- Header follow to profile `p` on the header of superframe `m` (R113). -/
def followHeader (p : Nat) (m : Superframe) (s : State) : State :=
  publish
    (sendReceiveOrder (some (plusLead m 1)) p
      (raise .profileFollowed
        (s.withRae
          { (if p = s.rae.e then s.rae else s.rae.arrivedAt p) with
            commit := none
            follow := 0
            candidate := none
            request := s.rae.request.settle p
            counters := { s.rae.counters with follows := s.rae.counters.follows + 1 } })))

/-- A new header acts on the follow counter (R112). -/
def countHeader (h : Header) (s : State) : State :=
  match followCounted s h with
  | some n =>
    s.withRae { s.rae with lastHeader := some h.number, follow := n, candidate := some h.profile }
  | none =>
    if h.profile = s.rae.expectedFor h.number then
      s.withRae { s.rae with lastHeader := some h.number, follow := 0, candidate := none }
    else
      s.withRae
        { s.rae with
          lastHeader := some h.number
          counters := { s.rae.counters with unknownHeaders := s.rae.counters.unknownHeaders + 1 } }

/-- The header completes the follow count (R112, R113). -/
def headerFollows (s : State) (h : Header) : Bool :=
  !completes s.rae h && headerNew s.rae h.number &&
    match followCounted s h with
    | some n => decide (s.params.followCount ≤ n)
    | none => false

/-- A taken header: completion, then follow (R110 to R113). -/
def takeHeader (h : Header) (s : State) : State :=
  if completes s.rae h then completeCommit h.profile s
  else if headerNew s.rae h.number then
    if headerFollows s h then followHeader h.profile h.number (countHeader h s) else countHeader h s
  else s

/-- The RAE takes a valid header of a branch outside OFFLINE when the branch is included (R110). -/
def headerTaken (link : Branch) (s : State) : Bool :=
  decide (s.link ≠ .offline) && !s.selector.excluded.get link

/-- The hand-off of a valid header to the RAE (R110). -/
def raeHeader (link : Branch) (h : Header) (s : State) : State :=
  if headerTaken link s then takeHeader h s else s

/-! ### START and STOP (R114) -/

/-- The RAE's work at START (R114). The counts are kept. -/
def raeStart (s : State) : State :=
  sendReceiveOrder none 0 (s.withRae { Rae.reset with counters := s.rae.counters })

/-- The RAE's work at STOP (R114). -/
def raeStop (s : State) : State :=
  s.withRae
    { s.rae with
      commit := none
      request := ⟨s.rae.e, .none⟩
      power := .hold
      deferred := false
      stall := 0
      stallReported := false
      predicted := none }

end Sys2Proof.Machine
end

