-- ==== Sys2Proof/Machine/Supervisor.lean ====
section
/-! DEFINITION. The Link Supervisor (chapter 9): a change of link state and the notices that cause one. Its
commands are in LinkCommands.lean. -/

namespace Sys2Proof.Machine

/-- A change of link state: the new state, the named blocks act, STATE_CHANGED, publication (R155). -/
def changeLink (new : LinkState) (act : State → State) (s : State) : State :=
  publish (raise .stateChanged (act (s.withLink new)))

/-- The peer digest equals the local digest; an absent peer digest equals none (R67). -/
def digestsEqual (s : State) : Bool := decide (s.peer.fields.digest = some s.ladder.digest)

/-- The change into wait reason LADDER_MISMATCH, with its event (R160, R162, R164). -/
def enterMismatch (act : State → State) (s : State) : State :=
  raise .ladderMismatch (changeLink (.acquire .ladderMismatch) act s)

/-- The comparison of the digests in ACQUIRE with the channel UP (R160, R162). -/
def compareInAcquire (reason : WaitReason) (s : State) : State :=
  if digestsEqual s then changeLink .adaptive id s
  else if reason = .ladderMismatch then s
  else enterMismatch id s

/-- The Link Supervisor's part of stage 5 of an accepted word (R160). -/
def supervisorHandOff (s : State) : State :=
  if s.peer.state = .up then
    match s.link with
    | .acquire reason => compareInAcquire reason s
    | .adaptive => if digestsEqual s then s else enterMismatch fallback s
    | .pinned _ => if digestsEqual s then s else enterMismatch fallback s
    | .offline => s
    | .fixed => s
  else s

/-- The DOWN notice at the Link Supervisor (R161). -/
def supervisorDown (s : State) : State :=
  match s.link with
  | .adaptive => changeLink (.acquire .peerDown) fallback s
  | .pinned _ => changeLink (.acquire .peerDown) fallback s
  | .acquire reason => if reason = .peerDown then s else changeLink (.acquire .peerDown) id s
  | .offline => s
  | .fixed => s

/-- The comparison after a COMMIT LADDER that is carried out (R162). -/
def supervisorLadder (s : State) : State :=
  if s.peer.state = .up then
    match s.link with
    | .acquire reason => compareInAcquire reason s
    | _ => s
  else s

/-- A burst overflow notice at the Link Supervisor (R163). -/
def supervisorOverflow (s : State) : State :=
  match s.link with
  | .pinned _ => raise .pinFault (changeLink .adaptive id s)
  | _ => s

end Sys2Proof.Machine
end

