-- ==== Sys2Proof/Machine/Monitor.lean ====
section
/-! DEFINITION. The Branch Monitors (chapter 2): the link events, the report age, the SNR filter, the slope
history, the burst error counter and its overflow notice. The whole handling of a report is in Report.lean. -/

namespace Sys2Proof.Machine

/-! ### Measured values (R27 to R29) -/

/-- The filtered SNR of a filter state (R18, R27). -/
def snrOf (f : Nat) : Nat := (f + 32) / 64

/-- The filtered SNR *F* of a branch, absent when *f* is absent (R18). -/
def Monitor.snr (m : Monitor) : Option Nat := m.filter.map snrOf

/-- The slope of a branch, from its ring and the slope span (R29). -/
def Monitor.slope (m : Monitor) (span : Nat) : Int :=
  if span + 1 ≤ m.ring.length then
    clampInt (-500) 500
      (10 * ((m.ring.getD (m.ring.length - 1) 0 : Int) - (m.ring.getD (m.ring.length - 1 - span) 0 : Int)) / span)
  else 0

/-- One step of the primed filter from *f* toward 64·*r*, with smoothing shift *k* (R27). -/
def filterStep (k f r : Nat) : Nat :=
  if k = 0 then 64 * r
  else ((f : Int) + ((64 * r : Int) - f + 2 ^ (k - 1)) / 2 ^ k).toNat

/-- The filter state after a locked report (R26, R27). -/
def Monitor.filterAfter (m : Monitor) (k r : Nat) : Nat :=
  match m.primed, m.filter with
  | true, some f => filterStep k f r
  | _, _ => 64 * r

/-! ### Steps 1 to 4 of a report (R23) -/

/-- A loss of lock: an unlocked report on a LOCKED branch (R24). -/
def losesLock (m : Monitor) (r : Report) : Bool := !r.locked && decide (m.status = .locked)

/-- The report counters and the lock-loss counter (R24, R35). -/
def BranchCounters.countReport (k : BranchCounters) (locked errored lost : Bool) : BranchCounters :=
  { k with
    lockedReports := k.lockedReports + (if locked then 1#32 else 0#32)
    unlockedReports := k.unlockedReports + (if locked then 0#32 else 1#32)
    erroredSuperframes := k.erroredSuperframes + (if errored then 1#32 else 0#32)
    lockLosses := k.lockLosses + (if lost then 1#32 else 0#32) }

/-- The monitor after steps 1 to 4 (R23 to R28, R30). -/
def Monitor.measured (m : Monitor) (k : Nat) (r : Report) : Monitor :=
  if r.locked then
    { m with
      status := .locked
      age := 0
      rsl := some (clampInt (-1000) (-150) r.rsl)
      filter := some (m.filterAfter k (clampNat Config.snrMax r.rawSnr))
      primed := true
      ring := pushRing Config.slopeRingSize m.ring (snrOf (m.filterAfter k (clampNat Config.snrMax r.rawSnr)))
      counters := m.counters.countReport true (decide (0 < r.errored)) false }
  else
    { m with
      status := .unlocked
      age := 0
      rsl := some (clampInt (-1000) (-150) r.rsl)
      primed := false
      ring := []
      counters := m.counters.countReport false false (losesLock m r) }

/-! ### The burst error counter (R31 to R33) -/

/-- The classes of a report (R31). -/
inductive BurstClass where
  | passive
  | errored
  | clean
  deriving DecidableEq, Repr

/-- The valid header of a report: present, in a locked report (R22). -/
def Report.validHeader (r : Report) : Option Header := if r.locked then r.header else none

/-- The class of a report, against the profile the RAE expects (R31).
DESIGN CHOICE: the comparison is plain, also where *e* names no enabled entry, as it can in OFFLINE; by R22 a header
naming such an entry differs from every expected profile, and would be passive there (assumption 20, unsafe). -/
def burstClass (rae : Rae) (r : Report) : BurstClass :=
  match r.validHeader with
  | some h =>
    if h.profile ≠ rae.expectedFor h.number then .passive
    else if 0 < r.errored then .errored else .clean
  | none => if !r.locked || decide (0 < r.errored) then .errored else .clean

/-- An errored report with the counter at the threshold overflows (R32). -/
def overflows (threshold : Nat) (m : Monitor) (k : BurstClass) : Bool :=
  decide (k = .errored) && decide (threshold ≤ m.burst)

/-- The monitor after step 5 (R32). -/
def Monitor.burstStep (m : Monitor) (threshold : Nat) (k : BurstClass) : Monitor :=
  match k with
  | .passive => m
  | .clean => { m with burst := m.burst - 1 }
  | .errored =>
    if m.burst < threshold then { m with burst := m.burst + 1 }
    else
      { m with
        burst := 0
        counters := { m.counters with burstOverflows := m.counters.burstOverflows + 1 } }

/-- A branch is in service for overflow notices (R33); the mode is the diversity mode parameter (R63). -/
def inService (link : Branch) (s : State) : Bool :=
  !s.selector.excluded.get link &&
    match s.params.mode, link with
    | .combine, _ => true
    | .select, _ => true
    | .singleA, .a => true
    | .singleB, .b => true
    | .singleA, .b => false
    | .singleB, .a => false

/-- The overflow notice of a branch, to the RAE and to the Link Supervisor (R33, R104, R163). -/
def overflowNotice (link : Branch) (s : State) : State :=
  if inService link s then supervisorOverflow (raeOverflow s) else s

/-- This report overflows the burst error counter of its branch (R32). -/
def reportOverflows (link : Branch) (r : Report) (s : State) : Bool :=
  overflows (s.params.burstThreshold.get link) (s.monitor.get link) (burstClass s.rae r)

/-- The event and the notice of a burst overflow (R32). -/
def burstEffects (link : Branch) (s : State) : State :=
  overflowNotice link (raise (burstOverflowEvent link) s)

/-- The monitor's own change on a report: steps 1 to 5 less events and notices (R23). -/
def monitorStep (link : Branch) (r : Report) (s : State) : State :=
  s.withMonitor
    (s.monitor.set link
      (((s.monitor.get link).measured s.params.smoothingShift r).burstStep (s.params.burstThreshold.get link)
        (burstClass s.rae r)))

/-- Steps 1 to 5 of a report (R23). -/
def monitorReport (link : Branch) (r : Report) (s : State) : State :=
  if reportOverflows link r s then
    burstEffects link (raiseIf (losesLock (s.monitor.get link) r) .branchLost (monitorStep link r s))
  else raiseIf (losesLock (s.monitor.get link) r) .branchLost (monitorStep link r s)

/-! ### Link events (R19 to R21) and the strobe (R25) -/

/-- The monitor after Modem Link down (R20). -/
def Monitor.linkDown (m : Monitor) : Monitor :=
  { m with
    status := .absent
    ring := []
    primed := false
    rsl := none
    age := Config.ageMax
    counters := { m.counters with linkLosses := m.counters.linkLosses + 1 } }

/-- Framing lost on a link that is UP (R19, R20). -/
def linkLost (link : Branch) (s : State) : State :=
  raise .branchLost
    ((s.withModem (s.modem.set link ⟨false, []⟩)).withMonitor
      (s.monitor.set link (s.monitor.get link).linkDown))

/-- MODEM_LINK_DOWN (R19, R20). On a link already DOWN there is no transition and nothing changes. -/
def execModemLinkDown (link : Branch) (s : State) : Host.Outcome State Fault Refusal :=
  .next (if (s.modem.get link).up then linkLost link s else s)

/-- MODEM_LINK_UP (R19, R21). -/
def execModemLinkUp (link : Branch) (s : State) : Host.Outcome State Fault Refusal :=
  .next (s.withModem (s.modem.set link { s.modem.get link with up := true }))

/-- A message leaves a Modem Link whole (R19). -/
def sendModem (link : Branch) (m : ModemMessage) (s : State) : State :=
  s.withSent { s.sent with modem := s.sent.modem.set link (s.sent.modem.get link ++ [m.bytes]) }

/-- The message being sent on a link has left, and the next waiting message is being sent (R19). -/
def messageSent (link : Branch) (s : State) : State :=
  match (s.modem.get link).waiting with
  | [] => s
  | m :: rest =>
    (sendModem link m s).withModem (s.modem.set link { s.modem.get link with waiting := rest })

/-- MODEM_MESSAGE_SENT (R19). With no message being sent nothing has been sent and nothing changes. -/
def execModemMessageSent (link : Branch) (s : State) : Host.Outcome State Fault Refusal :=
  .next (messageSent link s)

/-- A strobe at one monitor: the report age (R25). -/
def Monitor.aged (m : Monitor) : Monitor := { m with age := succSat Config.ageMax m.age }

/-- REPORT_AGE_COUNT: the strobe at both Branch Monitors (R25).
DESIGN CHOICE: each monitor counts the strobe for itself, and the row names no branch; the model ages both in one step, so
that no report falls between the two (assumption 1, unsafe). -/
def execReportAgeCount (s : State) : Host.Outcome State Fault Refusal :=
  .next (s.withMonitor ⟨s.monitor.a.aged, s.monitor.b.aged⟩)

end Sys2Proof.Machine
end

