-- ==== Sys2Proof/Machine/Evaluation.lean ====
section
/-! DEFINITION. The Diversity Selector (chapter 4) and the evaluation of a strobe: the selector's six steps and
then the RAE's evaluation on their hand-off (R52, R92). -/

namespace Sys2Proof.Machine

/-- The other branch. -/
def otherBranch : Branch → Branch
  | .a => .b
  | .b => .a

/-! ### Step 1: mode (R63) -/

/-- This evaluation is the first under its mode (R63). -/
def firstUnderMode (s : State) : Bool := s.selector.mode.isNone || s.selector.modeWrite

/-- The mode settles (R63). -/
def settleMode (s : State) : State :=
  if firstUnderMode s then
    s.withSelector { s.selector with mode := some s.params.mode, dwell := 0, modeWrite := false }
  else s

/-! ### Step 2: usability (R53) -/

/-- A branch is usable (R53). -/
def usable (link : Branch) (s : State) : Bool :=
  decide ((s.monitor.get link).status = .locked) && decide ((s.monitor.get link).age ≤ Config.usableAge)
    && !s.selector.excluded.get link

/-- The usable set is stored (R52 step 2). -/
def storeUsable (s : State) : State :=
  s.withSelector { s.selector with usable := ⟨usable .a s, usable .b s⟩ }

/-! ### Step 3: choice (R54 to R57) -/

/-- The filtered SNR of a branch as the selector compares it; a usable branch always has one (R53). -/
def branchSnr (link : Branch) (s : State) : Nat := ((s.monitor.get link).snr).getD 0

/-- The comparison of R55 row 2: both branches usable, the other strictly better, and by the hysteresis. -/
def otherBetter (s : State) : Bool :=
  s.selector.usable.a && s.selector.usable.b
    && decide (branchSnr s.selector.active s < branchSnr (otherBranch s.selector.active) s)
    && decide (s.params.selectHysteresis
        ≤ branchSnr (otherBranch s.selector.active) s - branchSnr s.selector.active s)

/-- The active branch is lost while the other is usable (R55 row 1). -/
def activeLost (s : State) : Bool :=
  !s.selector.usable.get s.selector.active && s.selector.usable.get (otherBranch s.selector.active)

/-- The switching step switches the active branch (R55, R56). -/
def switches (s : State) : Bool :=
  activeLost s || (otherBetter s && decide (s.params.selectDwell ≤ s.selector.dwell + 1))

/-- A switch of the active branch, with its event (R56). -/
def switchBranch (s : State) : State :=
  raise .branchSwitched
    (s.withSelector { s.selector with active := otherBranch s.selector.active, dwell := 0 })

/-- The switching step of SELECT (R55). -/
def switchingStep (s : State) : State :=
  if switches s then switchBranch s
  else if otherBetter s then s.withSelector { s.selector with dwell := s.selector.dwell + 1 }
  else s.withSelector { s.selector with dwell := 0 }

/-- Step 3 in SELECT; in the other modes the choice changes no state (R54 to R57). -/
def chooseActive (s : State) : State :=
  match s.selector.mode with
  | some .select => switchingStep s
  | _ => s

/-- A branch governs when it is usable (R54, R56). -/
def governIf (link : Branch) (s : State) : Option Governing :=
  if s.selector.usable.get link then some (.one link) else none

/-- The branches that govern, by the mode in force, after the switching step (R54, R56, R57). -/
def governing (s : State) : Option Governing :=
  match s.selector.mode with
  | some .singleA => governIf .a s
  | some .singleB => governIf .b s
  | some .select => governIf s.selector.active s
  | some .combine =>
    match s.selector.usable.a, s.selector.usable.b with
    | true, true => some .both
    | true, false => some (.one .a)
    | false, true => some (.one .b)
    | false, false => none
  | none => none

/-! ### Step 4: estimate (R58 to R60) -/

/-- The combiner gain table *c*[*i*] (R58). -/
def combinerGain (i : Nat) : Nat :=
  [30, 25, 21, 18, 15, 12, 10, 8, 6, 5, 4, 3, 3, 2, 2, 1, 1, 1, 1, 1].getD i 0

/-- The combined SNR of two filtered values (R58). -/
def combinedSnr (x y : Nat) : Nat :=
  min Config.snrMax (max x y + combinerGain ((max x y - min x y + 5) / 10))

/-- The estimate of one governing branch (R59, R60). A usable branch has an *F* and a latest RSL (R53). -/
def singleEstimate (link : Branch) (s : State) : Option Estimate :=
  match (s.monitor.get link).snr, (s.monitor.get link).rsl with
  | some f, some l => some ⟨f, (s.monitor.get link).slope s.params.slopeSpan, l, .one link⟩
  | _, _ => none

/-- The estimate of both branches combined (R58, R59). -/
def combineEstimates (x y : Estimate) : Estimate :=
  ⟨combinedSnr x.snr y.snr, min x.slope y.slope, max x.rsl y.rsl, .both⟩

/-- The estimate formed from the governing branches (R60). -/
def formEstimate (g : Option Governing) (s : State) : Option Estimate :=
  match g with
  | none => none
  | some (.one l) => singleEstimate l s
  | some .both =>
    match singleEstimate .a s, singleEstimate .b s with
    | some x, some y => some (combineEstimates x y)
    | _, _ => none

/-- Step 4: the estimate held before is replaced (R60). -/
def storeEstimate (s : State) : State :=
  s.withSelector { s.selector with estimate := formEstimate (governing s) s }

/-! ### Step 5: order (R54, R56, R57, R61) -/

/-- The Branch Order naming one branch. -/
def orderFor : Branch → BranchOrder
  | .a => .a
  | .b => .b

/-- The Branch Order that the mode in force calls for (R54, R56, R57). -/
def orderCalledFor (s : State) : BranchOrder :=
  match s.selector.mode with
  | some .singleA => .a
  | some .singleB => .b
  | some .select => orderFor s.selector.active
  | _ =>
    match s.selector.usable.a, s.selector.usable.b with
    | true, true => .combine
    | true, false => .a
    | false, true => .b
    | false, false => s.selector.lastOrder.getD .combine

/-- Send a Branch Order on both Modem Links (R61). -/
def sendBranchOrder (o : BranchOrder) (s : State) : State :=
  issueBoth (.branch o) (s.withSelector { s.selector with lastOrder := some o })

/-- Step 5: the order is sent when it differs from the last one sent or the evaluation is the first under its
mode (R61). -/
def orderStep (first : Bool) (s : State) : State :=
  if first || decide (s.selector.lastOrder ≠ some (orderCalledFor s)) then
    sendBranchOrder (orderCalledFor s) s
  else s

/-! ### The evaluation (R52) -/

/-- Steps 1 and 2: the state in which the choice is made. -/
def selectorPrepared (s : State) : State := storeUsable (settleMode s)

/-- The selector's steps 1 to 5 of a strobe (R52). -/
def selectorEvaluate (s : State) : State :=
  orderStep (firstUnderMode s) (storeEstimate (chooseActive (selectorPrepared s)))

/-- The strobe at the Diversity Selector and the RAE (R52, R92). -/
def evaluate (s : State) : State := raeEvaluate (selectorEvaluate s)

/-- This evaluation switches the active branch in SELECT (R56). -/
def evaluationSwitches (s : State) : Bool :=
  decide ((selectorPrepared s).selector.mode = some .select) && switches (selectorPrepared s)

/-- This evaluation yields an upshift candidate (R101). -/
def evaluationUpshifts (s : State) : Bool := upshiftReached (selectorEvaluate s)

/-- This evaluation raises REQUEST_STALLED (R106). -/
def evaluationStalls (s : State) : Bool :=
  decide (s.link ≠ .offline) && stallReached (evaluationDecides (selectorEvaluate s))

/-- EVALUATION (R52). -/
def execEvaluation (s : State) : Host.Outcome State Fault Refusal := .next (evaluate s)

/-- BRANCH_SWITCHED: the evaluation when it is one that switches the active branch (R56, assumption 2). -/
def execBranchSwitched (s : State) : Host.Outcome State Fault Refusal :=
  .next (if evaluationSwitches s then evaluate s else s)

/-- UPSHIFT_DWELL_REACHED: the evaluation when it is one that yields an upshift candidate (R101, assumption 2). -/
def execUpshiftDwellReached (s : State) : Host.Outcome State Fault Refusal :=
  .next (if evaluationUpshifts s then evaluate s else s)

/-- REQUEST_STALLED: the evaluation when it is one that raises REQUEST_STALLED (R106, assumption 2). -/
def execRequestStalled (s : State) : Host.Outcome State Fault Refusal :=
  .next (if evaluationStalls s then evaluate s else s)

end Sys2Proof.Machine
end

