-- ==== Sys2Proof/Decode.lean ====
section
/-! DEFINITION. Decoding. The opcode table gives its rows no bits, so `decodeTableWord` reads none. What the
IL-4 itself decodes are the command frames of the Control Link: the checks of R166 and the bodies of R190. -/

namespace Sys2Proof

/-- The command that a word spells by the table's bits: the table gives no row any bits. -/
def decodeTableWord (_nbits _w : Nat) : Option Instr := none

namespace Machine

/-- What checks 1 to 3 of R166 find in a complete frame. -/
inductive FrameVerdict where
  /-- The first failing check gives the response. -/
  | refused (response : Response)
  /-- The frame carries this command; check 4 belongs to the command's rule. -/
  | command (c : Instr)
  deriving DecidableEq, Repr

/-- The entry fields of the 11 bytes of a WRITE LADDER ENTRY body (R187). -/
def entryFieldsOf (flags k0 k1 k2 k3 d0 d1 u0 u1 m0 m1 : Byte) : EntryFields where
  enabled := flags.getLsbD 7
  modulation := flags.extractLsb' 3 4
  codeClass := flags.extractLsb' 0 3
  capacity := k0 ++ k1 ++ k2 ++ k3
  down := d0 ++ d1
  up := u0 ++ u1
  minDwell := m0 ++ m1

/-- Whether a command byte names a command of the part (R166 check 2, R190). -/
def knownCommand (code : Byte) : Bool :=
  decide (code ∈ ([0x01, 0x02, 0x03, 0x04, 0x05, 0x06, 0x07, 0x10, 0x11, 0x12, 0x13, 0x14, 0x20, 0x21, 0x22,
    0x23, 0x24, 0x25, 0x30, 0x31, 0x40] : List Byte))

/-- The command of a command byte and a body of that command's length (R190); none when the length differs. -/
def commandOf (code : Byte) (body : List Byte) : Option Instr :=
  match code.toNat, body with
  | 0x01, [] => some .readStatus
  | 0x02, [] => some .clearEvents
  | 0x03, [m0, m1, m2] => some (.setEventMask (m0 ++ m1 ++ m2))
  | 0x04, [] => some .readCounters
  | 0x05, [] => some .clearCounters
  | 0x06, [i, v0, v1, v2, v3] => some (.setParameter i (v0 ++ v1 ++ v2 ++ v3))
  | 0x07, [i] => some (.readParameter i)
  | 0x10, [i, f, k0, k1, k2, k3, d0, d1, u0, u1, m0, m1] =>
    some (.writeLadderEntry i (entryFieldsOf f k0 k1 k2 k3 d0 d1 u0 u1 m0 m1))
  | 0x11, [c, i] => some (.readLadderEntry c i)
  | 0x12, [n] => some (.setLadderCount n)
  | 0x13, [] => some .commitLadder
  | 0x14, [] => some .revertLadder
  | 0x20, [] => some .start
  | 0x21, [] => some .stop
  | 0x22, [] => some .hold
  | 0x23, [] => some .resume
  | 0x24, [p] => some (.pin p)
  | 0x25, [] => some .unpin
  | 0x30, [b] => some (.excludeBranch b)
  | 0x31, [b] => some (.includeBranch b)
  | 0x40, [] => some .softReset
  | _, _ => none

/-- Checks 1 to 3 of R166 on a complete frame, in their order. -/
def decodeFrame (bytes : List Byte) : FrameVerdict :=
  match bytes.take (bytes.length - 2) with
  | code :: len :: body =>
    if bytes.drop (bytes.length - 2) = be16 (crc16 (code :: len :: body)) then
      if knownCommand code then
        match commandOf code body with
        | some c => .command c
        | none => .refused .refusedFormat
      else .refused .refusedUnknown
    else .refused .refusedFormat
  | _ => .refused .refusedFormat

/-- The command byte and the body of a Control Link command; none for a command that is no frame (R190). -/
def commandBody : Instr → Option (Byte × List Byte)
  | .readStatus => some (0x01#8, [])
  | .clearEvents => some (0x02#8, [])
  | .setEventMask m => some (0x03#8, be24 m)
  | .readCounters => some (0x04#8, [])
  | .clearCounters => some (0x05#8, [])
  | .setParameter i v => some (0x06#8, i :: be32 v)
  | .readParameter i => some (0x07#8, [i])
  | .writeLadderEntry i e =>
    some (0x10#8, [i, BitVec.ofBool e.enabled ++ e.modulation ++ e.codeClass] ++ be32 e.capacity
      ++ be16 e.down ++ be16 e.up ++ be16 e.minDwell)
  | .readLadderEntry c i => some (0x11#8, [c, i])
  | .setLadderCount n => some (0x12#8, [n])
  | .commitLadder => some (0x13#8, [])
  | .revertLadder => some (0x14#8, [])
  | .start => some (0x20#8, [])
  | .stop => some (0x21#8, [])
  | .hold => some (0x22#8, [])
  | .resume => some (0x23#8, [])
  | .pin p => some (0x24#8, [p])
  | .unpin => some (0x25#8, [])
  | .excludeBranch b => some (0x30#8, [b])
  | .includeBranch b => some (0x31#8, [b])
  | .softReset => some (0x40#8, [])
  | .powerOnReset => none
  | .softResetTakesEffect _ => none
  | .modemLinkDown _ => none
  | .modemLinkUp _ => none
  | .modemMessageSent _ => none
  | .branchReport _ _ => none
  | .burstOverflow _ _ => none
  | .longFade _ _ => none
  | .fastFadingOff _ _ => none
  | .foreignSignal _ _ => none
  | .peerUp _ _ => none
  | .echoFault _ _ => none
  | .headerFollow _ _ => none
  | .transmitSlotRequest _ _ => none
  | .reportAgeCount => none
  | .evaluation => none
  | .branchSwitched => none
  | .upshiftDwellReached => none
  | .requestStalled => none
  | .silenceCount => none
  | .peerTimeout => none
  | .taeStrobe => none
  | .drainTimeout => none
  | .slewStep => none
  | .capacityLinkUp => none
  | .capacityLinkReset _ => none
  | .capacityRead _ => none
  | .endOfRead => none
  | .drainReady _ => none
  | .frameStrobeCount => none
  | .frameTimeout => none
  | .unknownCommand _ => none
  | .controlLinkByteArrival _ => none

/-- The frame of a Control Link command as the station controller sends it; none for another command. -/
def commandFrame (c : Instr) : Option (List Byte) :=
  (commandBody c).map (fun f => controlFrame f.1 f.2)

end Machine

end Sys2Proof
end

