-- ==== Sys2Proof/Machine/Frames.lean ====
section
/-! DEFINITION. The Control Link Interface's frames (R166 to R168): the input store, whose turn it is, responses,
the frame timeout and frames that fail a check. -/

namespace Sys2Proof.Machine

/-! ### Responses (R167, R168) -/

/-- A response frame is given to the Control Link. -/
def sendControl (bytes : List Byte) (s : State) : State :=
  s.withSent { s.sent with control := s.sent.control ++ [bytes] }

/-- The failed frames right behind an answered one are answered REFUSED_FORMAT in their turn (R167, assumption
10). -/
def answerFailed (frames : List HeldFrame) (s : State) : State :=
  match frames with
  | .failed _ :: rest =>
    answerFailed rest
      (sendControl Response.refusedFormat.frame (s.withControl { s.control with frames := rest }))
  | _ => s

/-- The one response to a frame (R167, R168). -/
def respond (r : Response) (s : State) : State :=
  answerFailed s.control.frames (sendControl r.frame s)

/-! ### Whose turn it is (R167) -/

/-- The state in which a command is taken, when it is its turn: no response to SOFT RESET is being sent (R178),
and the oldest frame that waits in the input store, if any waits, is this command's and leaves the store
(assumption 4). -/
def turn (c : Instr) (s : State) : Option State :=
  if s.control.resetPending then none
  else
    match s.control.frames with
    | [] => some s
    | .complete f :: rest =>
      if decodeFrame f = .command c then some (s.withControl { s.control with frames := rest }) else none
    | .failed _ :: _ => none

/-- Carry out a command in its turn; out of turn nothing is taken. -/
def onTurn (c : Instr) (act : State → State) (s : State) : State :=
  match turn c s with
  | some t => act t
  | none => s

/-- The state in which a frame that fails a check is taken, when it is its turn. -/
def turnOfFrame (f : List Byte) (s : State) : Option State :=
  if s.control.resetPending then none
  else
    match s.control.frames with
    | [] => some s
    | .complete g :: rest =>
      if g = f then some (s.withControl { s.control with frames := rest }) else none
    | .failed _ :: _ => none

/-- The response of a complete frame that fails check 1, 2 or 3 (R166). -/
def frameRefusal (f : List Byte) : Option Response :=
  if frameComplete f then
    match decodeFrame f with
    | .refused r => some r
    | .command _ => none
  else none

/-- UNKNOWN_COMMAND (R166): the frame changes no state beyond its response. A frame that is not complete, or
that passes the checks, is not one of this row and changes nothing. -/
def execUnknownCommand (f : List Byte) (s : State) : Host.Outcome State Fault Refusal :=
  .next
    (match frameRefusal f, turnOfFrame f s with
     | some r, some t => respond r t
     | _, _ => s)

/-! ### The input store (R167) -/

/-- The bytes a held frame occupies. -/
def HeldFrame.size : HeldFrame → Nat
  | .complete bytes => bytes.length
  | .failed bytes => bytes.length

/-- The bytes in the input store. -/
def ControlLink.stored (k : ControlLink) : Nat := (k.frames.map HeldFrame.size).sum + k.incomplete.length

/-- Whether a frame is incomplete: a byte of it has arrived, held or discarded (R167). -/
def ControlLink.midFrame (k : ControlLink) : Bool := decide (k.incomplete ≠ []) || k.lost.isSome

/-- A frame that has failed leaves the receiver, and the next byte begins a new frame. It is answered REFUSED_FORMAT
at once, or behind the frames before it, while the store holds `bytes` of it (R167, assumption 10). -/
def failFrame (bytes : List Byte) (s : State) : State :=
  if s.control.frames = [] ∧ s.control.resetPending = false then
    respond .refusedFormat (s.withControl { s.control with incomplete := [], lost := none, frameStrobes := 0 })
  else
    s.withControl
      { s.control with
        frames := s.control.frames ++ [.failed bytes]
        incomplete := []
        lost := none
        frameStrobes := 0 }

/-- How far a frame has come whose bytes so far are all held; none when it has not begun (R166). -/
def heldExtent (bytes : List Byte) : Option Extent :=
  match bytes with
  | [] => none
  | [_] => some .lengthNext
  | _ :: len :: rest => some (.remaining (len.toNat + 2 - rest.length))

/-- How far a frame has come when one more byte has arrived, held or not: the second byte announces how many are
still to arrive (R166, assumption 15). -/
def extentAfter (extent : Option Extent) (b : Byte) : Extent :=
  match extent with
  | none => .lengthNext
  | some .lengthNext => .remaining (b.toNat + 2)
  | some (.remaining n) => .remaining (n - 1)

/-- A byte joins the incomplete frame, none of whose bytes is discarded, and completes it when it is its last
(R166, R167). -/
def ControlLink.takeByte (k : ControlLink) (b : Byte) : ControlLink :=
  if frameComplete (k.incomplete ++ [b]) then
    { k with frames := k.frames ++ [.complete (k.incomplete ++ [b])], incomplete := [], frameStrobes := 0 }
  else { k with incomplete := k.incomplete ++ [b], frameStrobes := 0 }

/-- A byte arrives for a frame that loses it, or has lost one before: the frame still ends where its length byte
says, and fails its CRC then (R166, R167, assumption 15). `held` are the bytes of the frame that the store holds after it. -/
def lossyByte (b : Byte) (held : List Byte) (s : State) : State :=
  match extentAfter (s.control.lost <|> heldExtent s.control.incomplete) b with
  | .remaining 0 => failFrame held s
  | extent =>
    s.withControl { s.control with incomplete := held, lost := some extent, frameStrobes := 0 }

/-- A byte arrives on the Control Link: one that finds the store full is discarded (R167). -/
def arriveByte (b : Byte) (s : State) : State :=
  if Config.inputStoreSize ≤ s.control.stored then lossyByte b s.control.incomplete s
  else if s.control.lost.isSome then lossyByte b (s.control.incomplete ++ [b]) s
  else s.withControl (s.control.takeByte b)

/-- CONTROL_LINK_BYTE_ARRIVAL (R167). -/
def execControlLinkByteArrival (b : Byte) (s : State) : Host.Outcome State Fault Refusal :=
  .next (arriveByte b s)

/-! ### The frame timeout (R167) -/

/-- This strobe takes the count of an incomplete frame to its limit (R167). -/
def frameTimesOut (s : State) : Bool :=
  s.control.midFrame && decide (Config.frameStrobeLimit ≤ s.control.frameStrobes + 1)

/-- A strobe at the Control Link Interface: it counts for an incomplete frame, and the one that takes the count to
its limit discards the frame's bytes (R167). -/
def frameStrobe (s : State) : State :=
  if frameTimesOut s then failFrame [] s
  else if s.control.midFrame then s.withControl { s.control with frameStrobes := s.control.frameStrobes + 1 }
  else s

/-- FRAME_STROBE_COUNT (R167). -/
def execFrameStrobeCount (s : State) : Host.Outcome State Fault Refusal := .next (frameStrobe s)

/-- FRAME_TIMEOUT: the strobe at the Control Link Interface when it times the incomplete frame out (R167,
assumption 2). -/
def execFrameTimeout (s : State) : Host.Outcome State Fault Refusal :=
  .next (if frameTimesOut s then frameStrobe s else s)

end Sys2Proof.Machine
end

