-- ==== Sys2Proof/Machine/ControlCommands.lean ====
section
/-! DEFINITION. The Control Link Interface's own commands (chapter 10): parameters, events, the status report
and the counters. -/

namespace Sys2Proof.Machine

/-! ### Parameters (R170, R171) -/

/-- A burst threshold below the burst error counter of its branch sets that counter to it (R34, R171). -/
def Monitor.capBurst (m : Monitor) (threshold : Nat) : Monitor :=
  if threshold < m.burst then { m with burst := threshold } else m

/-- The attenuation after a write of `which`, the table already written (R136). -/
def attenuationAfter (which : ParamId) (p : Params) (a : Nat) : Nat :=
  match which with
  | .atpc => if p.atpc then a else p.attMin
  | .attMin => if p.atpc then max p.attMin (min p.attMax a) else p.attMin
  | .attMax => max p.attMin (min p.attMax a)
  | _ => a

/-- The effects a write makes beyond the table, when it is taken (R171). -/
def paramEffects (which : ParamId) (s : State) : State :=
  match which with
  | .burstThresholdA =>
    s.withMonitor { s.monitor with a := s.monitor.a.capBurst s.params.burstThreshold.a }
  | .burstThresholdB =>
    s.withMonitor { s.monitor with b := s.monitor.b.capBurst s.params.burstThreshold.b }
  | .mode => s.withSelector { s.selector with modeWrite := true }
  | _ => setAttenuation (attenuationAfter which s.params s.tae.attenuation) s

/-- The value is stored and its effects are made (R170 step 5, R171). -/
def storeParameter (which : ParamId) (x : Int) (s : State) : State :=
  paramEffects which (s.withParams (s.params.store which x))

/-- SET PARAMETER, taken (R170). -/
def setParameter (identifier : Byte) (value : BitVec 32) (s : State) : State :=
  match s.params.judge identifier value with
  | .badFormat => respond .refusedFormat s
  | .inconsistent => respond .refusedInconsistent s
  | .take which x clamped =>
    respond (if clamped then .clamped (be32 (BitVec.ofInt 32 x)) else .ok []) (storeParameter which x s)

/-- SET_PARAMETER (R170, R171). -/
def execSetParameter (identifier : Byte) (value : BitVec 32) (s : State) : Host.Outcome State Fault Refusal :=
  .next (onTurn (.setParameter identifier value) (setParameter identifier value) s)

/-- READ PARAMETER, taken (R171). -/
def readParameter (identifier : Byte) (s : State) : State :=
  match ParamId.ofByte identifier with
  | none => respond .refusedFormat s
  | some which => respond (.ok (be32 (BitVec.ofInt 32 (s.params.read which)))) s

/-- READ_PARAMETER (R171). -/
def execReadParameter (identifier : Byte) (s : State) : Host.Outcome State Fault Refusal :=
  .next (onTurn (.readParameter identifier) (readParameter identifier) s)

/-! ### The status report (R176, R190) -/

/-- The code of a wait reason (R154, R180). -/
def WaitReason.code : WaitReason → Nat
  | .starting => 0
  | .peerDown => 1
  | .ladderMismatch => 2

/-- The Link Supervisor's group. -/
def statusLink (s : State) : List Byte :=
  match s.link with
  | .acquire reason => [byteOf s.link.code, byteOf reason.code, 0xFF#8]
  | .pinned p => [byteOf s.link.code, 0xFF#8, byteOf p]
  | _ => [byteOf s.link.code, 0xFF#8, 0xFF#8]

/-- The code of the RAE state, in the order of R89: COMMITTED, REQUESTING, IDLE (R180, assumption 8). -/
def Rae.stateCode (r : Rae) : Nat := if r.commit.isSome then 0 else if r.requesting then 1 else 2

/-- A commit in the status report (R190). -/
def commitBytes (k : Option Commit) : List Byte :=
  match k with
  | some k => byteOf k.profile :: be16 k.switch
  | none => [0xFF#8, 0#8, 0#8]

/-- The Receive Adaptation Engine's group. -/
def statusRae (r : Rae) : List Byte :=
  [byteOf r.e, byteOf r.stateCode, byteOf r.request.profile, byteOf r.request.kind.code,
    byteOf r.power.code, flagByte r.deferred]
    ++ commitBytes r.commit ++ optInt16 (r.predicted.map (fun x => (x : Int)))

/-- The code of the TAE state (R118, R180). -/
def TaeState.code : TaeState → Nat
  | .steady => 0
  | .draining _ _ _ => 1
  | .committed _ => 2

/-- The drain target (R118). -/
def TaeState.target : TaeState → Option Nat
  | .draining d _ _ => some d
  | _ => none

/-- The Transmit Adaptation Engine's group. -/
def statusTae (t : Tae) : List Byte :=
  [byteOf t.c, byteOf t.state.code, optByte t.state.target] ++ commitBytes t.commit?
    ++ [byteOf t.attenuation]

/-- The code of the peer channel state (R190). -/
def ChannelState.code : ChannelState → Nat
  | .down => 0
  | .verifying => 1
  | .up => 2

/-- A digest in the status report: a presence byte and two bytes (R190). DESIGN CHOICE, unsafe: the manual does not say
what the two bytes of an absent digest hold, and here they are 0 (assumption 17). -/
def digestBytes (d : Option (BitVec 16)) : List Byte :=
  match d with
  | some x => 1#8 :: be16 x
  | none => [0#8, 0#8, 0#8]

/-- The Peer Channel's group. -/
def statusPeer (s : State) : List Byte :=
  [byteOf s.peer.state.code, flagByte s.peer.fields.adapt] ++ digestBytes s.peer.fields.digest
    ++ digestBytes (some s.ladder.digest)
    ++ [byteOf s.peer.fields.headroom, optByte s.peer.fields.txProfile]

/-- The code of a branch (R190). -/
def branchCode : Branch → Nat
  | .a => 0
  | .b => 1

/-- The Diversity Selector's group (R65). -/
def statusSelector (s : State) : List Byte :=
  [byteOf (s.selector.mode.getD s.params.mode).code, byteOf (branchCode s.selector.active)]
    ++ optInt16 (s.selector.estimate.map (fun x => (x.snr : Int)))

/-- The code of a link status (R190). -/
def LinkStatus.code : LinkStatus → Nat
  | .absent => 0
  | .unlocked => 1
  | .locked => 2

/-- The group of one branch. -/
def statusBranch (m : Monitor) (f : FadeClassifier) (span : Nat) : List Byte :=
  [byteOf m.status.code] ++ optInt16 (m.snr.map (fun x => (x : Int))) ++ beInt16 (m.slope span)
    ++ optInt16 m.rsl ++ [flagByte f.faded, flagByte f.longFade, flagByte f.fastFading, byteOf m.burst]

/-- The bytes of an event set; bits 21 to 23 are spare (R190). -/
def eventBytes (set : EventSet) : List Byte := be24 (set.setWidth 24)

/-- The body of the status report (R176, R190). -/
def statusReport (s : State) : List Byte :=
  statusLink s ++ statusRae s.rae ++ statusTae s.tae ++ statusPeer s ++ statusSelector s
    ++ statusBranch s.monitor.a s.fade.a s.params.slopeSpan
    ++ statusBranch s.monitor.b s.fade.b s.params.slopeSpan ++ eventBytes s.control.events

/-- READ STATUS, taken: the report, and the reported set becomes the pending set it shows (R174). -/
def readStatus (s : State) : State := respond (.ok (statusReport s)) (noteReported s)

/-- READ_STATUS (R174, R176). -/
def execReadStatus (s : State) : Host.Outcome State Fault Refusal := .next (onTurn .readStatus readStatus s)

/-! ### Events (R173, R175) -/

/-- CLEAR EVENTS, taken: answered with the set it removed (R175). -/
def clearEvents (s : State) : State := respond (.ok (eventBytes (clearable s))) (clearReported s)

/-- CLEAR_EVENTS (R175). -/
def execClearEvents (s : State) : Host.Outcome State Fault Refusal := .next (onTurn .clearEvents clearEvents s)

/-- SET_EVENT_MASK (R173); the spare bits of the set are ignored (R185). -/
def execSetEventMask (mask : BitVec 24) (s : State) : Host.Outcome State Fault Refusal :=
  .next (onTurn (.setEventMask mask) (fun t => respond (.ok []) (setMask (mask.setWidth 21) t)) s)

/-! ### Counters (R177) -/

/-- The eight branch counters in order. -/
def BranchCounters.list (k : BranchCounters) : List Counter :=
  [k.lockedReports, k.erroredSuperframes, k.unlockedReports, k.lockLosses, k.linkLosses, k.burstOverflows,
    k.fades, k.longFades]

/-- The six counts of the RAE in order. -/
def RaeCounters.list (k : RaeCounters) : List Counter :=
  [k.upSwitches, k.downSwitches, k.emergencies, k.follows, k.unknownHeaders, k.ignoredCommits]

/-- The five check counts in order. -/
def PeerCounters.list (k : PeerCounters) : List Counter :=
  [k.wordsAccepted, k.badCrc, k.foreignWords, k.duplicates, k.echoMismatches]

/-- The seven counts of the TAE in order. -/
def TaeCounters.list (k : TaeCounters) : List Counter :=
  [k.upSwitches, k.downSwitches, k.emergencies, k.badRequests, k.drainTimeouts, k.lateAnswers,
    k.unconfirmedDownshifts]

/-- The 34 counters in the order of READ COUNTERS (R177, R190). -/
def allCounters (s : State) : List Counter :=
  s.monitor.a.counters.list ++ s.monitor.b.counters.list ++ s.rae.counters.list ++ s.peer.counters.list
    ++ s.tae.counters.list

/-- READ COUNTERS, taken (R177). -/
def readCounters (s : State) : State := respond (.ok ((allCounters s).flatMap be32)) s

/-- READ_COUNTERS (R177). -/
def execReadCounters (s : State) : Host.Outcome State Fault Refusal :=
  .next (onTurn .readCounters readCounters s)

/-- All 34 counters are set to 0 (R177). -/
def zeroCounters (s : State) : State :=
  (((s.withMonitor
        ⟨{ s.monitor.a with counters := .zero }, { s.monitor.b with counters := .zero }⟩).withRae
      { s.rae with counters := .zero }).withPeer
    { s.peer with counters := .zero }).withTae
    { s.tae with counters := .zero }

/-- CLEAR_COUNTERS (R177). -/
def execClearCounters (s : State) : Host.Outcome State Fault Refusal :=
  .next (onTurn .clearCounters (fun t => respond (.ok []) (zeroCounters t)) s)

end Sys2Proof.Machine
end

