-- ==== Sys2Proof/Machine/LadderCommands.lean ====
section
/-! DEFINITION. The Profile Ladder's commands (chapter 1): editing, reading back, validation and commit. -/

namespace Sys2Proof.Machine

/-! ### Editing (R8 to R11) -/

/-- The entry stored for the fields of WRITE LADDER ENTRY, brought into range (R8). -/
def storedEntry (f : EntryFields) : Entry where
  enabled := f.enabled
  modulation := f.modulation
  codeClass := f.codeClass
  capacity := clampNat Config.capacityMax f.capacity.toNat
  down := clampNat Config.snrMax f.down.toNat
  up := clampNat Config.snrMax f.up.toNat
  minDwell := f.minDwell.toNat

/-- A field was clamped (R8). -/
def fieldsClamp (f : EntryFields) : Bool :=
  decide (Config.capacityMax < f.capacity.toNat) || decide (Config.snrMax < f.down.toNat)
    || decide (Config.snrMax < f.up.toNat)

/-- Write a slot of the edit copy. -/
def writeEdit (i : Nat) (e : Entry) (s : State) : State :=
  s.withLadder
    { s.ladder with edit := { s.ladder.edit with slots := s.ladder.edit.slots.setIfInBounds i e } }

/-- WRITE LADDER ENTRY, taken (R8). -/
def writeLadderEntry (index : Byte) (f : EntryFields) (s : State) : State :=
  if Config.slotCount ≤ index.toNat then respond (.refusedInvalid index.toNat .indexRange) s
  else if fieldsClamp f then respond (.clamped (storedEntry f).bytes) (writeEdit index.toNat (storedEntry f) s)
  else respond (.ok []) (writeEdit index.toNat (storedEntry f) s)

/-- WRITE_LADDER_ENTRY (R8). -/
def execWriteLadderEntry (index : Byte) (f : EntryFields) (s : State) : Host.Outcome State Fault Refusal :=
  .next (onTurn (.writeLadderEntry index f) (writeLadderEntry index f) s)

/-- The body that READ LADDER ENTRY answers for a slot of a copy with its digest (R9, R190). -/
def entryReport (l : Ladder) (digest : BitVec 16) (i : Nat) : List Byte :=
  (l.slot i).bytes ++ [byteOf l.count, flagByte (decide (i < l.count))] ++ be16 digest

/-- READ LADDER ENTRY, taken (R9). -/
def readLadderEntry (copy index : Byte) (s : State) : State :=
  if copy ≠ 0#8 ∧ copy ≠ 1#8 then respond .refusedFormat s
  else if Config.slotCount ≤ index.toNat then respond (.refusedInvalid index.toNat .indexRange) s
  else if copy = 0#8 then respond (.ok (entryReport s.ladder.active s.ladder.digest index.toNat)) s
  else respond (.ok (entryReport s.ladder.edit s.ladder.edit.digest index.toNat)) s

/-- READ_LADDER_ENTRY (R9). -/
def execReadLadderEntry (copy index : Byte) (s : State) : Host.Outcome State Fault Refusal :=
  .next (onTurn (.readLadderEntry copy index) (readLadderEntry copy index) s)

/-- The count that SET LADDER COUNT applies (R10). -/
def appliedCount (n : Nat) : Nat := if n = 0 then 1 else clampNat Config.slotCount n

/-- SET LADDER COUNT, taken (R10). -/
def setLadderCount (count : Byte) (s : State) : State :=
  respond
    (if appliedCount count.toNat = count.toNat then .ok []
     else .clamped [byteOf (appliedCount count.toNat)])
    (s.withLadder { s.ladder with edit := { s.ladder.edit with count := appliedCount count.toNat } })

/-- SET_LADDER_COUNT (R10). -/
def execSetLadderCount (count : Byte) (s : State) : Host.Outcome State Fault Refusal :=
  .next (onTurn (.setLadderCount count) (setLadderCount count) s)

/-- The edit copy is set equal to the active ladder (R7, R11). -/
def revertEdit (s : State) : State := s.withLadder { s.ladder with edit := s.ladder.active.trimmed }

/-- REVERT_LADDER (R11). -/
def execRevertLadder (s : State) : Host.Outcome State Fault Refusal :=
  .next (onTurn .revertLadder (fun t => respond (.ok []) (revertEdit t)) s)

/-! ### Validation (R14) -/

/-- The lowest index from `first` up, below the count, at which a condition fails. -/
def Ladder.failsAt (l : Ladder) (first : Nat) (bad : Nat → Bool) : Option Nat :=
  (List.range l.count).find? (fun p => decide (first ≤ p) && bad p)

/-- The failure of a copy: the first failing condition, at the lowest index at which it fails (R14). -/
def Ladder.failure (l : Ladder) : Option (Nat × InvalidReason) :=
  [ if l.count = 0 then some (0, .count) else none,
    (l.failsAt 0 (fun p => decide (10 ≤ (l.slot p).modulation.toNat))).map (fun p => (p, .modulation)),
    if (l.slot 0).enabled then none else some (0, .referenceDisabled),
    (l.failsAt 1 (fun p => decide ((l.slot p).capacity ≤ (l.slot (p - 1)).capacity))).map
      (fun p => (p, .capacityOrder)),
    (l.failsAt 1 (fun p => decide ((l.slot p).down ≤ (l.slot (p - 1)).down))).map (fun p => (p, .downOrder)),
    (l.failsAt 1 (fun p => decide ((l.slot p).up ≤ (l.slot (p - 1)).up))).map (fun p => (p, .upOrder)),
    (l.failsAt 1 (fun p => decide ((l.slot p).up < (l.slot p).down + 5))).map
      (fun p => (p, .upMargin)) ].findSome? id

/-! ### Commit (R12, R13, R15, R16) -/

/-- The link is at rest (R13). -/
def atRest (s : State) : Bool :=
  s.tae.commit?.isNone && s.rae.commit.isNone && decide (s.tae.c = 0) && decide (s.rae.e = 0)

/-- The reference entry keeps its modulation code and code class (R15). -/
def referenceKept (s : State) : Bool :=
  decide ((s.ladder.edit.slot 0).modulation = (s.ladder.active.slot 0).modulation)
    && decide ((s.ladder.edit.slot 0).codeClass = (s.ladder.active.slot 0).codeClass)

/-- The response of the first check that fails, none when the commit is carried out (R12). -/
def commitRefusal (s : State) : Option Response :=
  if s.link.adapting then some .refusedState
  else if s.link.holding && !atRest s then some .refusedInTransition
  else
    match s.ladder.edit.failure with
    | some (i, reason) => some (.refusedInvalid i reason)
    | none => if s.link.holding && !referenceKept s then some .refusedReference else none

/-- The active ladder becomes the edit copy, with a new digest (R16). -/
def replaceActive (s : State) : State :=
  s.withLadder
    { s.ladder with active := s.ladder.edit.trimmed, digest := s.ladder.edit.trimmed.digest }

/-- The capacity of entry 0 changes with this commit, in ACQUIRE or FIXED (R16). -/
def referenceCapacityChanges (s : State) : Bool :=
  s.link.holding && decide ((s.ladder.edit.slot 0).capacity ≠ (s.ladder.active.slot 0).capacity)

/-- A commit that is carried out: the ladder, the Link Supervisor's comparison, and the publication for a
changed capacity of entry 0 (R16, R162; their order is assumption 5). -/
def carryOutCommit (s : State) : State :=
  if referenceCapacityChanges s then publish (supervisorLadder (replaceActive s))
  else supervisorLadder (replaceActive s)

/-- COMMIT LADDER, taken (R12). -/
def commitLadder (s : State) : State :=
  match commitRefusal s with
  | some r => respond r s
  | none => respond (.ok []) (carryOutCommit s)

/-- COMMIT_LADDER (R12 to R16). -/
def execCommitLadder (s : State) : Host.Outcome State Fault Refusal :=
  .next (onTurn .commitLadder commitLadder s)

end Sys2Proof.Machine
end

