-- ==== Sys2Proof/Machine/Peer.lean ====
section
/-! DEFINITION. The Peer Channel (chapter 5): the check of an arriving word, echo verification, entering DOWN,
silence, and building the outgoing word. -/

namespace Sys2Proof.Machine

/-! ### Entering DOWN (R76, R79) -/

/-- The channel's own state when it enters DOWN (R76). -/
def PeerChannel.entersDown (k : PeerChannel) : PeerChannel :=
  { k with
    state := .down
    verify := 0
    mismatch := 0
    silence := 0
    fields := .cleared
    lastFar := none }

/-- The channel enters DOWN, and the Link Supervisor and then the TAE are notified (R76, R79, R161, R138). -/
def enterDown (s : State) : State :=
  setAttenuation s.params.attMin
    (supervisorDown
      (raiseIf (decide (s.peer.state = .up)) .peerDown (s.withPeer s.peer.entersDown)))

/-! ### Stages 1 to 3 (R70 to R73) -/

/-- The identity check: every bit set in the mask agrees (R72). -/
def identityPasses (p : Params) (hop : BitVec 20) : Bool :=
  decide (hop &&& p.hopMask = p.peerHop &&& p.hopMask)

/-- A failing word takes the foreign counter to the threshold (R72). -/
def foreignReached (s : State) : Bool := decide (s.params.foreignThreshold ≤ s.peer.foreign + 1)

/-- A word fails the identity check (R72). -/
def foreignWord (s : State) : State :=
  raiseIf (foreignReached s) .foreignSignal
    (s.withPeer
      { s.peer with
        foreign := if foreignReached s then 0 else s.peer.foreign + 1
        counters := { s.peer.counters with foreignWords := s.peer.counters.foreignWords + 1 } })

/-- A word fails the CRC (R71). -/
def countBadCrc (s : State) : State :=
  s.withPeer { s.peer with counters := { s.peer.counters with badCrc := s.peer.counters.badCrc + 1 } }

/-- A word passes the identity check (R72). -/
def passIdentity (s : State) : State := s.withPeer { s.peer with foreign := s.peer.foreign - 1 }

/-- The order check: *L* is unset, or *m* is after it (R73). DESIGN CHOICE, unsafe: an *m* exactly 32768 from *L* is by
R2 neither after *L* nor at or before it, and R73 names no outcome for it; here it does not pass, as stage 3 of R70
reads (assumption 16). -/
def orderPasses (k : PeerChannel) (m : Superframe) : Bool :=
  match k.lastFar with
  | none => true
  | some l => isAfter m l

/-- A word discarded by the order check is counted (R73). -/
def countDuplicate (s : State) : State :=
  s.withPeer
    { s.peer with counters := { s.peer.counters with duplicates := s.peer.counters.duplicates + 1 } }

/-! ### Stage 4: acceptance, echo check, channel state (R73 to R75) -/

/-- The peer fields of an accepted word (R67, R73). -/
def OverheadWord.fields (w : OverheadWord) : PeerFields where
  adapt := w.adapt
  challenge := some w.challenge
  commit := w.commit
  request := w.request
  power := w.power
  txProfile := some w.txProfile
  headroom := w.headroom
  digest := some w.digest

/-- The channel after the acceptance itself (R73). -/
def PeerChannel.accept (k : PeerChannel) (m : Superframe) (w : OverheadWord) : PeerChannel :=
  { k with
    lastFar := some m
    fields := w.fields
    silence := 0
    counters := { k.counters with wordsAccepted := k.counters.wordsAccepted + 1 } }

/-- What the echo check finds (R74). -/
inductive EchoFinding where
  | agrees
  | mismatch
  | neither
  deriving DecidableEq, Repr

/-- The echo check against the challenge ring (R74). -/
def echoCheck (ring : List Byte) (echo : Option Byte) : EchoFinding :=
  match echo with
  | none => .neither
  | some x => if x ∈ ring then .agrees else .mismatch

/-- The echo mismatch counter and count after the echo check (R74). -/
def PeerChannel.countEcho (k : PeerChannel) (finding : EchoFinding) : PeerChannel :=
  match finding with
  | .agrees => { k with mismatch := k.mismatch - 1 }
  | .mismatch =>
    { k with
      mismatch := succSat Config.mismatchLimit k.mismatch
      counters := { k.counters with echoMismatches := k.counters.echoMismatches + 1 } }
  | .neither => k

/-- The channel state and verify count with an echo applied as in VERIFYING, from verify count `n` (R75). -/
def PeerChannel.verifying (k : PeerChannel) (n : Nat) (finding : EchoFinding) : PeerChannel :=
  match finding with
  | .agrees =>
    { k with
      verify := n + 1
      state := if Config.verifyGoal ≤ n + 1 then .up else .verifying }
  | .mismatch => { k with verify := 0, state := .verifying }
  | .neither => { k with verify := n, state := .verifying }

/-- The channel state and verify count after the echo check, less the echo fault (R75). -/
def PeerChannel.updateState (k : PeerChannel) (finding : EchoFinding) : PeerChannel :=
  match k.state with
  | .down => k.verifying 0 finding
  | .verifying => k.verifying k.verify finding
  | .up => k

/-- The channel after acceptance, echo check and channel state (R73 to R75). -/
def PeerChannel.taken (k : PeerChannel) (m : Superframe) (w : OverheadWord) : PeerChannel :=
  ((k.accept m w).countEcho (echoCheck k.ring w.echo)).updateState (echoCheck k.ring w.echo)

/-- The word makes the third mismatch in UP (R75). -/
def echoFaults (k : PeerChannel) (w : OverheadWord) : Bool :=
  decide (k.state = .up) && decide (echoCheck k.ring w.echo = .mismatch)
    && decide (Config.mismatchLimit ≤ succSat Config.mismatchLimit k.mismatch)

/-- The word takes the channel UP (R75). -/
def wordTakesUp (k : PeerChannel) (m : Superframe) (w : OverheadWord) : Bool :=
  decide (k.state ≠ .up) && decide ((k.taken m w).state = .up)

/-- Stage 5: the Link Supervisor, the RAE and the TAE, in that order (R78). -/
def handOff (f : PeerFields) (s : State) : State :=
  taeHandOff f (seeCommit f.commit (supervisorHandOff s))

/-- An accepted word (R73 to R79). -/
def acceptWord (m : Superframe) (w : OverheadWord) (s : State) : State :=
  if echoFaults s.peer w then enterDown (raise .echoFault (s.withPeer (s.peer.taken m w)))
  else
    handOff w.fields
      (raiseIf (wordTakesUp s.peer m w) .peerUp (s.withPeer (s.peer.taken m w)))

/-! ### The whole check (R70) -/

/-- A word whose CRC is good and that passes the identity check reaches the order check outside OFFLINE; in
OFFLINE it is discarded (R70, R80). A word that does not pass the order check is discarded and counted as a
duplicate, an *m* exactly 32768 from *L* among them (DESIGN CHOICE, assumption 16). -/
def checkOrder (m : Superframe) (w : OverheadWord) (s : State) : State :=
  if s.link = .offline then s
  else if orderPasses s.peer m then acceptWord m w s
  else countDuplicate s

/-- A parsed word with a good CRC at stage 2 and after (R70, R72). -/
def checkIdentity (m : Superframe) (w : OverheadWord) (s : State) : State :=
  if identityPasses s.params w.hopId then checkOrder m w (passIdentity s) else foreignWord s

/-- A word at the Peer Channel (R70). A word is always 14 bytes; another length has no good CRC. -/
def checkWord (m : Superframe) (bytes : List Byte) (s : State) : State :=
  match wordIntact bytes, OverheadWord.parse bytes with
  | true, some w => checkIdentity m w s
  | _, _ => countBadCrc s

/-- The fields of a word that passes stages 1 and 2 and, outside OFFLINE, the order check (R70). -/
def acceptableWord (m : Superframe) (bytes : List Byte) (s : State) : Option OverheadWord :=
  match wordIntact bytes, OverheadWord.parse bytes with
  | true, some w =>
    if identityPasses s.params w.hopId && decide (s.link ≠ .offline) && orderPasses s.peer m then some w
    else none
  | _, _ => none

/-- A word that fails the identity check and takes the foreign counter to the threshold (R72). -/
def wordIsForeignSignal (bytes : List Byte) (s : State) : Bool :=
  match wordIntact bytes, OverheadWord.parse bytes with
  | true, some w => !identityPasses s.params w.hopId && foreignReached s
  | _, _ => false

/-! ### Silence (R77) -/

/-- This strobe takes the silence counter to the peer timeout (R77). -/
def silenceReached (s : State) : Bool :=
  decide (s.peer.state ≠ .down) && decide (s.params.peerTimeout ≤ s.peer.silence + 1)

/-- A strobe at the Peer Channel (R77). -/
def silenceStrobe (s : State) : State :=
  if s.peer.state = .down then s
  else if silenceReached s then enterDown (s.withPeer { s.peer with silence := s.peer.silence + 1 })
  else s.withPeer { s.peer with silence := s.peer.silence + 1 }

/-- SILENCE_COUNT (R77). -/
def execSilenceCount (s : State) : Host.Outcome State Fault Refusal := .next (silenceStrobe s)

/-- PEER_TIMEOUT: the strobe at the Peer Channel when it takes the silence counter to the peer timeout (R77,
assumption 2). -/
def execPeerTimeout (s : State) : Host.Outcome State Fault Refusal :=
  .next (if silenceReached s then silenceStrobe s else s)

/-! ### The outgoing word (R81 to R83) -/

/-- The next value of the challenge sequence (R81). -/
def nextChallengeAfter (x : Byte) : Byte := 37#8 * x + 11#8

/-- The channel after generating the challenge of a word (R81). -/
def PeerChannel.challenged (k : PeerChannel) : PeerChannel :=
  { k with
    ring := pushRing Config.challengeRingSize k.ring k.nextChallenge
    nextChallenge := nextChallengeAfter k.nextChallenge }

/-- The word of a slot, as the engines stand after the handling of that slot (R82, R83).
DESIGN CHOICE: the request and the power request are those held at the build (R88), also where a completion, a follow or
START has changed them since the last evaluation, of which R82 speaks (assumption 19, unsafe). -/
def outgoingWord (s : State) : OverheadWord where
  hopId := s.params.ownHop
  adapt := s.link.adapting
  echo := s.peer.fields.challenge
  commit := s.tae.commit?
  challenge := s.peer.nextChallenge
  request := s.rae.request
  power := s.rae.power
  txProfile := s.tae.c
  headroom := s.tae.attenuation - s.params.attMin
  digest := s.ladder.digest

end Sys2Proof.Machine
end

