-- ==== Sys2Proof/Machine/LinkCommands.lean ====
section
/-! DEFINITION. The commands of the Link Supervisor (R156 to R159), and EXCLUDE BRANCH and INCLUDE BRANCH (R62). -/

namespace Sys2Proof.Machine

/-! ### START and STOP (R156, R157) -/

/-- The TAE's work at START (R135). -/
def taeStart (s : State) : State :=
  s.withTae
    { s.tae with
      c := 0
      state := .steady
      lastSlot := none
      fallbackOwed := false
      slew := 0
      attenuation := s.params.attMin }

/-- The TAE's work at STOP (R134). -/
def taeStop (s : State) : State := s.withTae { s.tae with c := 0, state := .steady, fallbackOwed := false }

/-- The Peer Channel's work at STOP (R80). -/
def peerStop (s : State) : State := if s.peer.state = .down then s else enterDown s

/-- The change of link state at START (R156). -/
def startLink (s : State) : State := changeLink (.acquire .starting) (fun t => taeStart (raeStart t)) s

/-- START, taken (R156). -/
def startCommand (s : State) : State :=
  if s.link ≠ .offline then respond .refusedState s
  else if s.ladder.active.count = 0 then respond .refusedNoLadder s
  else respond (.ok []) (startLink s)

/-- START (R156). -/
def execStart (s : State) : Host.Outcome State Fault Refusal := .next (onTurn .start startCommand s)

/-- The change of link state at STOP (R157). -/
def stopLink (s : State) : State := changeLink .offline (fun t => taeStop (raeStop (peerStop t))) s

/-- STOP, taken (R157). -/
def stopCommand (s : State) : State :=
  if s.link = .offline then respond (.ok []) s else respond (.ok []) (stopLink s)

/-- STOP (R157). -/
def execStop (s : State) : Host.Outcome State Fault Refusal := .next (onTurn .stop stopCommand s)

/-! ### HOLD and RESUME (R158) -/

/-- HOLD, taken (R158). -/
def holdCommand (s : State) : State :=
  match s.link with
  | .adaptive => respond (.ok []) (changeLink .fixed fallback s)
  | .pinned _ => respond (.ok []) (changeLink .fixed fallback s)
  | .acquire _ => respond (.ok []) (changeLink .fixed id s)
  | .fixed => respond (.ok []) s
  | .offline => respond .refusedState s

/-- HOLD (R158). -/
def execHold (s : State) : Host.Outcome State Fault Refusal := .next (onTurn .hold holdCommand s)

/-- RESUME, taken (R158). -/
def resumeCommand (s : State) : State :=
  if s.link = .fixed then respond (.ok []) (changeLink (.acquire .starting) id s)
  else respond .refusedState s

/-- RESUME (R158). -/
def execResume (s : State) : Host.Outcome State Fault Refusal := .next (onTurn .resume resumeCommand s)

/-! ### PIN and UNPIN (R159) -/

/-- PIN, taken (R159). A profile of 16 to 255 is outside the field's codes (R166, R190). -/
def pinCommand (profile : Byte) (s : State) : State :=
  if 16 ≤ profile.toNat then respond .refusedFormat s
  else if !s.link.adapting then respond .refusedState s
  else if !s.ladder.active.enabledAt profile.toNat then respond .refusedProfile s
  else if s.link = .pinned profile.toNat then respond (.ok []) s
  else respond (.ok []) (changeLink (.pinned profile.toNat) id s)

/-- PIN (R159). -/
def execPin (profile : Byte) (s : State) : Host.Outcome State Fault Refusal :=
  .next (onTurn (.pin profile) (pinCommand profile) s)

/-- UNPIN, taken (R159). The RAE is left unchanged (R88); that its next evaluation starts from the upshift dwell count 0
(R159) is noted for that evaluation (assumption 18). -/
def unpinCommand (s : State) : State :=
  match s.link with
  | .pinned _ => respond (.ok []) ((changeLink .adaptive id s).withUnpinned true)
  | _ => respond .refusedState s

/-- UNPIN (R159). -/
def execUnpin (s : State) : Host.Outcome State Fault Refusal := .next (onTurn .unpin unpinCommand s)

/-! ### EXCLUDE BRANCH and INCLUDE BRANCH (R62) -/

/-- The branch a code names (R190). -/
def branchOf (code : Byte) : Option Branch :=
  if code = 0#8 then some .a else if code = 1#8 then some .b else none

/-- Set the exclusion of the branch that a code names (R62). -/
def setExclusion (code : Byte) (x : Bool) (s : State) : State :=
  match branchOf code with
  | some l =>
    respond (.ok []) (s.withSelector { s.selector with excluded := s.selector.excluded.set l x })
  | none => respond .refusedFormat s

/-- EXCLUDE_BRANCH (R62). -/
def execExcludeBranch (branch : Byte) (s : State) : Host.Outcome State Fault Refusal :=
  .next (onTurn (.excludeBranch branch) (setExclusion branch true) s)

/-- INCLUDE_BRANCH (R62). -/
def execIncludeBranch (branch : Byte) (s : State) : Host.Outcome State Fault Refusal :=
  .next (onTurn (.includeBranch branch) (setExclusion branch false) s)

end Sys2Proof.Machine
end

