-- ==== Sys2Proof/Machine/Fade.lean ====
section
/-! DEFINITION. The Fade Classifiers (chapter 3): the fade test, the duration step and the recurrence step that
a classifier takes on each report handed to it. -/

namespace Sys2Proof.Machine

/-- What the fade test finds (R40). -/
inductive FadeFinding where
  | onset
  | ended
  | neither
  deriving DecidableEq, Repr

/-- The fade test on a report: the sample is *F* for a locked report and absent for an unlocked one (R41, R42). -/
def fadeTest (threshold hysteresis : Nat) (faded : Bool) (sample : Option Nat) : FadeFinding :=
  match faded, sample with
  | false, none => .onset
  | false, some x => if x < threshold then .onset else .neither
  | true, none => .neither
  | true, some x => if threshold + hysteresis ≤ x then .ended else .neither

/-- The fade state that the fade test leaves (R41, R42). -/
def FadeFinding.fadedAfter (finding : FadeFinding) (faded : Bool) : Bool :=
  match finding with
  | .onset => true
  | .ended => false
  | .neither => faded

/-- The duration timer reaches 0 on this report (R43). -/
def durationReached (f : FadeClassifier) (finding : FadeFinding) : Bool :=
  decide (finding = .neither) && f.faded && decide (f.duration = some 1)

/-- The recurrence timer reaches 0 on this report (R44). -/
def recurrenceReached (f : FadeClassifier) (finding : FadeFinding) : Bool :=
  decide (finding ≠ .onset) && decide (f.recurrence = some 1)

/-- A running timer counts down; at 1 it reaches 0 and is stopped (R43, R44). -/
def countDown (timer : Option Nat) : Option Nat :=
  match timer with
  | some (n + 2) => some (n + 1)
  | _ => none

/-- The fade test's and the duration step's part of a classifier (R41 to R43). -/
def FadeClassifier.durationStep (f : FadeClassifier) (limit : Nat) (finding : FadeFinding) : FadeClassifier :=
  match finding with
  | .onset => { f with faded := true, duration := some limit }
  | .ended => { f with faded := false, duration := none, longFade := false }
  | .neither =>
    if f.faded then
      { f with duration := countDown f.duration, longFade := f.longFade || decide (f.duration = some 1) }
    else f

/-- The recurrence step (R44). -/
def FadeClassifier.recurrenceStep (f : FadeClassifier) (limit : Nat) (finding : FadeFinding) : FadeClassifier :=
  match finding with
  | .onset => { f with recurrence := some limit, fastFading := f.fastFading || f.recurrence.isSome }
  | _ =>
    { f with
      recurrence := countDown f.recurrence
      fastFading := f.fastFading && decide (f.recurrence ≠ some 1) }

/-- What the fade test of a branch finds on a report (R39, R41, R42). -/
def fadeFinding (link : Branch) (sample : Option Nat) (s : State) : FadeFinding :=
  fadeTest (s.params.fadeThreshold.get link) s.params.fadeHysteresis (s.fade.get link).faded sample

/-- The three steps of a classifier (R40). -/
def classify (p : Params) (f : FadeClassifier) (finding : FadeFinding) : FadeClassifier :=
  (f.durationStep p.durationLimit finding).recurrenceStep p.recurrenceLimit finding

/-- The fades and long-fades counters of the branch (R41, R43, R45). -/
def BranchCounters.countFade (k : BranchCounters) (onset long : Bool) : BranchCounters :=
  { k with
    fades := k.fades + (if onset then 1#32 else 0#32)
    longFades := k.longFades + (if long then 1#32 else 0#32) }

/-- A report at the Fade Classifier of a branch, after the fade test's finding: the classifier, the branch
counters, and the events in step order (R40, R45). -/
def fadeSteps (link : Branch) (finding : FadeFinding) (s : State) : State :=
  raiseIf (recurrenceReached (s.fade.get link) finding && (s.fade.get link).fastFading) .fastFadingOff
    (raiseIf (decide (finding = .onset) && (s.fade.get link).recurrence.isSome && !(s.fade.get link).fastFading)
      .fastFadingOn
      (raiseIf (durationReached (s.fade.get link) finding) (longFadeEvent link)
        ((s.withFade (s.fade.set link (classify s.params (s.fade.get link) finding))).withMonitor
          (s.monitor.set link
            { s.monitor.get link with
              counters :=
                (s.monitor.get link).counters.countFade (decide (finding = .onset))
                  (durationReached (s.fade.get link) finding) }))))

/-- A report at the Fade Classifier of a branch (R40). -/
def fadeReport (link : Branch) (sample : Option Nat) (s : State) : State :=
  fadeSteps link (fadeFinding link sample s) s

end Sys2Proof.Machine
end

