-- ==== Sys2Proof/Machine/Report.lean ====
section
/-! DEFINITION. The handling of a Branch Report as one step (R23): the monitor, then the Fade Classifier, the
Peer Channel and the RAE. The rows that name a special case of a report are the report's own step when that
case comes about (assumption 2). -/

namespace Sys2Proof.Machine

/-- The sample a classifier receives: *F* for a locked report, nothing for an unlocked one (R23, chapter 3.2). -/
def fadeSample (link : Branch) (r : Report) (s : State) : Option Nat :=
  if r.locked then (s.monitor.get link).snr else none

/-- The report after the monitor and the classifier: steps 1 to 5 and the first hand-off (R23). -/
def reportClassified (link : Branch) (r : Report) (s : State) : State :=
  fadeReport link (fadeSample link r (monitorReport link r s)) (monitorReport link r s)

/-- The word of a report and its far superframe number, when the monitor hands it on (R22). -/
def Report.handedWord (r : Report) : Option (Superframe × List Byte) :=
  match r.validHeader, r.word with
  | some h, some w => some (h.number, w)
  | _, _ => none

/-- The hand-off of the word to the Peer Channel (R23). -/
def wordStep (r : Report) (s : State) : State :=
  match r.handedWord with
  | some (m, w) => checkWord m w s
  | none => s

/-- The report after the Peer Channel's hand-off (R23). -/
def reportWorded (link : Branch) (r : Report) (s : State) : State :=
  wordStep r (reportClassified link r s)

/-- The hand-off of the header to the RAE (R23). -/
def headerStep (link : Branch) (r : Report) (s : State) : State :=
  match r.validHeader with
  | some h => raeHeader link h s
  | none => s

/-- A Branch Report of a branch, as one step (R23). -/
def handleReport (link : Branch) (r : Report) (s : State) : State :=
  headerStep link r (reportWorded link r s)

/-- A Branch Report that reaches its monitor and meets a condition: the message passes the frame check (R183)
and the link is UP; while it is DOWN no message arrives (R19). -/
def arrivingReport (link : Branch) (message : List Byte) (s : State) : Option Report :=
  if (s.modem.get link).up then receiveReport message else none

/-- The step of a report, when it arrives and is one on which `when` holds. -/
def reportWhen (link : Branch) (message : List Byte) (when : Report → Bool) (s : State) : State :=
  match arrivingReport link message s with
  | some r => if when r then handleReport link r s else s
  | none => s

/-! ### The special cases -/

/-- The duration timer reaches 0 on this report (R43). -/
def reportLongFade (link : Branch) (s : State) (r : Report) : Bool :=
  durationReached (s.fade.get link)
    (fadeFinding link (fadeSample link r (monitorReport link r s)) (monitorReport link r s))

/-- The recurrence timer reaches 0 on this report (R44). -/
def reportFastFadingOff (link : Branch) (s : State) (r : Report) : Bool :=
  recurrenceReached (s.fade.get link)
    (fadeFinding link (fadeSample link r (monitorReport link r s)) (monitorReport link r s))

/-- The word of this report takes the foreign counter to the threshold (R72). -/
def reportForeignSignal (s : State) (r : Report) : Bool :=
  match r.handedWord with
  | some (_, w) => wordIsForeignSignal w s
  | none => false

/-- The word of this report takes the channel UP (R75). -/
def reportPeerUp (s : State) (r : Report) : Bool :=
  match r.handedWord with
  | some (m, w) =>
    match acceptableWord m w s with
    | some x => wordTakesUp s.peer m x
    | none => false
  | none => false

/-- The word of this report is an echo fault (R75). -/
def reportEchoFault (s : State) (r : Report) : Bool :=
  match r.handedWord with
  | some (m, w) =>
    match acceptableWord m w s with
    | some x => echoFaults s.peer x
    | none => false
  | none => false

/-- The header of this report completes the follow count, as the RAE stands after the report's word (R113). -/
def reportFollows (link : Branch) (s : State) (r : Report) : Bool :=
  match r.validHeader with
  | some h => headerTaken link (reportWorded link r s) && headerFollows (reportWorded link r s) h
  | none => false

/-! ### The commands -/

/-- BRANCH_REPORT (R23). -/
def execBranchReport (link : Branch) (message : List Byte) (s : State) : Host.Outcome State Fault Refusal :=
  .next (reportWhen link message (fun _ => true) s)

/-- BURST_OVERFLOW: the report when it overflows the burst error counter (R32). -/
def execBurstOverflow (link : Branch) (message : List Byte) (s : State) : Host.Outcome State Fault Refusal :=
  .next (reportWhen link message (fun r => reportOverflows link r s) s)

/-- LONG_FADE: the report when the duration timer reaches 0 on it (R43). -/
def execLongFade (link : Branch) (message : List Byte) (s : State) : Host.Outcome State Fault Refusal :=
  .next (reportWhen link message (reportLongFade link s) s)

/-- FAST_FADING_OFF: the report when the recurrence timer reaches 0 on it (R44). -/
def execFastFadingOff (link : Branch) (message : List Byte) (s : State) : Host.Outcome State Fault Refusal :=
  .next (reportWhen link message (reportFastFadingOff link s) s)

/-- FOREIGN_SIGNAL: the report when its word takes the foreign counter to the threshold (R72). -/
def execForeignSignal (link : Branch) (message : List Byte) (s : State) : Host.Outcome State Fault Refusal :=
  .next (reportWhen link message (reportForeignSignal s) s)

/-- PEER_UP: the report when its word takes the channel UP (R75). -/
def execPeerUp (link : Branch) (message : List Byte) (s : State) : Host.Outcome State Fault Refusal :=
  .next (reportWhen link message (reportPeerUp s) s)

/-- ECHO_FAULT: the report when its word is the third mismatch in UP (R75). -/
def execEchoFault (link : Branch) (message : List Byte) (s : State) : Host.Outcome State Fault Refusal :=
  .next (reportWhen link message (reportEchoFault s) s)

/-- HEADER_FOLLOW: the report when its header completes the follow count (R113). -/
def execHeaderFollow (link : Branch) (message : List Byte) (s : State) : Host.Outcome State Fault Refusal :=
  .next (reportWhen link message (reportFollows link s) s)

end Sys2Proof.Machine
end

