-- ==== Sys2Proof/Machine/Resets.lean ====
section
/-! DEFINITION. The two resets: power-on reset, and SOFT RESET with the moment it takes effect (R178). -/

namespace Sys2Proof.Machine

/-- POWER_ON_RESET: every block takes its power-on state. The queue of waiting commands and the record of what
has been sent are the model's own and are kept (assumption 6). -/
def execPowerOnReset (s : State) : Host.Outcome State Fault Refusal :=
  .next { State.reset with sent := s.sent, pending := s.pending }

/-- SOFT_RESET: answered OK; the reset waits until that response has been sent (R178). -/
def execSoftReset (s : State) : Host.Outcome State Fault Refusal :=
  .next
    (onTurn .softReset
      (fun t => (sendControl (Response.ok []).frame t).withControl { t.control with resetPending := true }) s)

/-- The attenuation after soft reset (R118, R136). -/
def softAttenuation (p : Params) : Nat := if p.atpc then p.attMax else p.attMin

/-- The Control Link Interface after soft reset: the event mask is kept, RESTARTED alone is pending (R178). -/
def ControlLink.restarted (k : ControlLink) : ControlLink :=
  { ControlLink.reset.withEvents Event.restarted.flag with
    mask := k.mask, attention := attentionOf Event.restarted.flag k.mask }

/-- Soft reset takes effect on every block (R178). The Modem Links keep their framing and the messages that
wait on them (R19). -/
def softResetBlocks (s : State) : State :=
  { revertEdit s with
    monitor := ⟨.reset, .reset⟩
    fade := ⟨.reset, .reset⟩
    selector := .reset
    peer := .reset
    rae := .reset
    tae := .resetAt (softAttenuation s.params)
    capacity := .resetWith s.capacity.framing
    link := .offline
    control := s.control.restarted
    unpinned := false }

/-- SOFT_RESET_TAKES_EFFECT: when the response to SOFT RESET is being sent, its last byte has now left; a
capacity read in flight is aborted and every block is reset (R152, R178). -/
def execSoftResetTakesEffect (recordBytesSent : Fin 30) (s : State) : Host.Outcome State Fault Refusal :=
  .next (if s.control.resetPending then softResetBlocks (abortRead recordBytesSent.val s) else s)

end Sys2Proof.Machine
end

