-- ==== Sys2Proof/Machine/SlotRequest.lean ====
section
/-! DEFINITION. The Transmit Slot Request (R121): the switch that falls on the slot, an owed fallback, and the
Transmit Order with the overhead word (R82, R123). -/

namespace Sys2Proof.Machine

/-- Step 2: a pending commit whose switch superframe is at or before slot `n` is completed (R121, R122). -/
def switchDue (n : Superframe) (s : State) : State :=
  match s.tae.commit? with
  | some k => if atOrAfter n k.switch then completeSwitch k.profile s else s
  | none => s

/-- Step 3: an owed fallback is served in ACQUIRE or FIXED, and dropped in any other link state (R121, R132). -/
def serveFallback (s : State) : State :=
  if s.tae.fallbackOwed then
    if s.link.holding then fallback (s.withTae { s.tae with fallbackOwed := false })
    else s.withTae { s.tae with fallbackOwed := false }
  else s

/-- The Transmit Order of slot `n` outside OFFLINE, carrying a word (R123). -/
def transmitOrder (n : Superframe) (word : List Byte) (s : State) : TransmitOrder where
  slot := n
  attenuation := s.tae.attenuation
  content :=
    some ⟨s.tae.c, (s.ladder.active.slot s.tae.c).modulation, (s.ladder.active.slot s.tae.c).codeClass, word⟩

/-- The muted Transmit Order of slot `n` (R123). -/
def mutedOrder (n : Superframe) (s : State) : TransmitOrder := ⟨n, s.tae.attenuation, none⟩

/-- Step 4: the Transmit Order is formed and sent on Modem Link A; outside OFFLINE the word is built and
consumes its challenge (R81, R82, R123). -/
def sendTransmitOrder (n : Superframe) (s : State) : State :=
  if s.link = .offline then issue .a (.transmit (mutedOrder n s)) s
  else
    issue .a (.transmit (transmitOrder n (outgoingWord s).bytes s)) (s.withPeer s.peer.challenged)

/-- A Transmit Slot Request for slot `n`, as one step (R121). -/
def handleSlot (n : Superframe) (s : State) : State :=
  sendTransmitOrder n (serveFallback (switchDue n (s.withTae { s.tae with lastSlot := some n })))

/-- TRANSMIT_SLOT_REQUEST (R121). A message that fails the frame check, as every one on Link B does, and one
for a link that is DOWN reaches no block (R19, R183). -/
def execTransmitSlotRequest (link : Branch) (message : List Byte) (s : State) :
    Host.Outcome State Fault Refusal :=
  .next
    (match receiveSlotRequest link message with
     | some n => if (s.modem.get link).up then handleSlot n s else s
     | none => s)

end Sys2Proof.Machine
end

