-- ==== Sys2Proof/Machine/Dispatch.lean ====
section
/-! DEFINITION. One arm per command: the effect of a command on everything but the queue. -/

namespace Sys2Proof.Machine

def exec (i : Instr) (s : State) : Host.Outcome State Fault Refusal :=
  match i with
  | .powerOnReset => Sys2Proof.Machine.execPowerOnReset s
  | .softReset => Sys2Proof.Machine.execSoftReset s
  | .softResetTakesEffect recordBytesSent => Sys2Proof.Machine.execSoftResetTakesEffect recordBytesSent s
  | .modemLinkDown link => Sys2Proof.Machine.execModemLinkDown link s
  | .modemLinkUp link => Sys2Proof.Machine.execModemLinkUp link s
  | .modemMessageSent link => Sys2Proof.Machine.execModemMessageSent link s
  | .branchReport link message => Sys2Proof.Machine.execBranchReport link message s
  | .burstOverflow link message => Sys2Proof.Machine.execBurstOverflow link message s
  | .longFade link message => Sys2Proof.Machine.execLongFade link message s
  | .fastFadingOff link message => Sys2Proof.Machine.execFastFadingOff link message s
  | .foreignSignal link message => Sys2Proof.Machine.execForeignSignal link message s
  | .peerUp link message => Sys2Proof.Machine.execPeerUp link message s
  | .echoFault link message => Sys2Proof.Machine.execEchoFault link message s
  | .headerFollow link message => Sys2Proof.Machine.execHeaderFollow link message s
  | .transmitSlotRequest link message => Sys2Proof.Machine.execTransmitSlotRequest link message s
  | .reportAgeCount => Sys2Proof.Machine.execReportAgeCount s
  | .evaluation => Sys2Proof.Machine.execEvaluation s
  | .branchSwitched => Sys2Proof.Machine.execBranchSwitched s
  | .upshiftDwellReached => Sys2Proof.Machine.execUpshiftDwellReached s
  | .requestStalled => Sys2Proof.Machine.execRequestStalled s
  | .silenceCount => Sys2Proof.Machine.execSilenceCount s
  | .peerTimeout => Sys2Proof.Machine.execPeerTimeout s
  | .taeStrobe => Sys2Proof.Machine.execTaeStrobe s
  | .drainTimeout => Sys2Proof.Machine.execDrainTimeout s
  | .slewStep => Sys2Proof.Machine.execSlewStep s
  | .capacityLinkUp => Sys2Proof.Machine.execCapacityLinkUp s
  | .capacityLinkReset recordBytesSent => Sys2Proof.Machine.execCapacityLinkReset recordBytesSent s
  | .capacityRead message => Sys2Proof.Machine.execCapacityRead message s
  | .endOfRead => Sys2Proof.Machine.execEndOfRead s
  | .drainReady message => Sys2Proof.Machine.execDrainReady message s
  | .frameStrobeCount => Sys2Proof.Machine.execFrameStrobeCount s
  | .frameTimeout => Sys2Proof.Machine.execFrameTimeout s
  | .unknownCommand frame => Sys2Proof.Machine.execUnknownCommand frame s
  | .readStatus => Sys2Proof.Machine.execReadStatus s
  | .clearEvents => Sys2Proof.Machine.execClearEvents s
  | .setEventMask mask => Sys2Proof.Machine.execSetEventMask mask s
  | .readCounters => Sys2Proof.Machine.execReadCounters s
  | .clearCounters => Sys2Proof.Machine.execClearCounters s
  | .setParameter identifier value => Sys2Proof.Machine.execSetParameter identifier value s
  | .readParameter identifier => Sys2Proof.Machine.execReadParameter identifier s
  | .writeLadderEntry index entry => Sys2Proof.Machine.execWriteLadderEntry index entry s
  | .readLadderEntry copy index => Sys2Proof.Machine.execReadLadderEntry copy index s
  | .setLadderCount count => Sys2Proof.Machine.execSetLadderCount count s
  | .commitLadder => Sys2Proof.Machine.execCommitLadder s
  | .revertLadder => Sys2Proof.Machine.execRevertLadder s
  | .start => Sys2Proof.Machine.execStart s
  | .stop => Sys2Proof.Machine.execStop s
  | .hold => Sys2Proof.Machine.execHold s
  | .resume => Sys2Proof.Machine.execResume s
  | .pin profile => Sys2Proof.Machine.execPin profile s
  | .unpin => Sys2Proof.Machine.execUnpin s
  | .excludeBranch branch => Sys2Proof.Machine.execExcludeBranch branch s
  | .includeBranch branch => Sys2Proof.Machine.execIncludeBranch branch s
  | .controlLinkByteArrival byte => Sys2Proof.Machine.execControlLinkByteArrival byte s

end Sys2Proof.Machine
end

