-- ==== Sys2Proof/Machine/Step.lean ====
section
/-! DEFINITION. One step of the IL-4: the command at the front of the queue is handled. -/

namespace Sys2Proof.Machine

/-- One step: the command at the front of the queue, carried out with the rest of the queue waiting; on an empty
queue the part idles (assumption 1). -/
def step (s : State) : Host.Outcome State Fault Refusal :=
  match s.pending with
  | [] => .next s
  | c :: rest => exec c (s.withPending rest)

/-- The command that a word spells, put at the front of the queue; the table's rows have no bits, so no word
spells one. -/
def State.withFetchWord (s : State) (nbits w : Nat) : State :=
  match decodeTableWord nbits w with
  | some c => s.withPending (c :: s.pending)
  | none => s

end Sys2Proof.Machine
end

