-- ==== Sys2Proof/Safety.lean ====
section
/-! DEFINITION. The laws of the IL-4's state: what the manual says always holds of each block. A run is safe when
every state on it meets them. Each law is written so that `decide` can check it on a state. -/

namespace Sys2Proof.Machine

/-- What raising a set of events leaves of the Control Link Interface, in the terms of the statements: the events are
pending (R172), the attention line follows the pending set and the mask (R173), and the events leave the reported set
(R174). Raising none leaves it as it was. -/
def ControlLink.afterRaising (k : ControlLink) (raised : EventSet) : ControlLink :=
  if raised = 0#21 then k
  else
    { k with
      events := k.events ||| raised
      attention := decide ((k.events ||| raised) &&& ~~~k.mask ≠ 0#21)
      reported := k.reported.map (fun r => r &&& ~~~raised) }

/-- The pin profile, present in PINNED alone (R154). -/
def LinkState.pin? : LinkState → Option Nat
  | .pinned p => some p
  | _ => none

/-- The drain target, drain timer and drain limit, present in DRAINING alone (R118). -/
structure Drain where
  target : Nat
  timer : Nat
  limit : Nat
  deriving DecidableEq, Repr

/-- The drain in progress (R118). -/
def TaeState.drain? : TaeState → Option Drain
  | .draining d timer limit => some ⟨d, timer, limit⟩
  | _ => none

/-- Every parameter lies in its range, and the two pairs of limits are in order (R169). -/
abbrev Params.Lawful (p : Params) : Prop :=
  p.smoothingShift ≤ 6 ∧ 1 ≤ p.slopeSpan ∧ p.slopeSpan ≤ 15 ∧ 1 ≤ p.horizon ∧ p.horizon ≤ 255
    ∧ 1 ≤ p.upshiftDwell ∧ p.upshiftDwell ≤ 4096
    ∧ 1 ≤ p.burstThreshold.a ∧ p.burstThreshold.a ≤ 255 ∧ 1 ≤ p.burstThreshold.b ∧ p.burstThreshold.b ≤ 255
    ∧ p.fadeThreshold.a ≤ 500 ∧ p.fadeThreshold.b ≤ 500 ∧ p.fadeHysteresis ≤ 50
    ∧ 1 ≤ p.durationLimit ∧ p.durationLimit ≤ 65535 ∧ 1 ≤ p.recurrenceLimit ∧ p.recurrenceLimit ≤ 65535
    ∧ p.selectHysteresis ≤ 100 ∧ 1 ≤ p.selectDwell ∧ p.selectDwell ≤ 1000
    ∧ 1 ≤ p.followCount ∧ p.followCount ≤ 15 ∧ 8 ≤ p.commitLead ∧ p.commitLead ≤ 255
    ∧ 4 ≤ p.emergencyLead ∧ p.emergencyLead ≤ 255 ∧ 1 ≤ p.drainTimeout ∧ p.drainTimeout ≤ 1000
    ∧ 16 ≤ p.stallLimit ∧ p.stallLimit ≤ 4096 ∧ 4 ≤ p.peerTimeout ∧ p.peerTimeout ≤ 1000
    ∧ 1 ≤ p.foreignThreshold ∧ p.foreignThreshold ≤ 255
    ∧ -1000 ≤ p.rslLow ∧ p.rslLow < p.rslHigh ∧ p.rslHigh ≤ -150
    ∧ p.attMin ≤ p.attMax ∧ p.attMax ≤ 80 ∧ p.slewIndex ≤ 7

/-- A stored entry lies in the ranges of R5. -/
abbrev Entry.Lawful (e : Entry) : Prop :=
  e.capacity ≤ 4000000 ∧ e.down ≤ 500 ∧ e.up ≤ 500 ∧ e.minDwell ≤ 65535

/-- A ladder copy: its count and its entries are in range (R4, R5). -/
abbrev Ladder.Lawful (l : Ladder) : Prop :=
  l.count ≤ 12 ∧ ∀ i, i < 12 → (l.slot i).Lawful

/-- Condition `order` of the table of R14 (1 to 7) fails at index `p`, read from the table's words: 1 and 3
concern index 0 alone, 2 every entry, and 4 to 7 each entry with the one below it. -/
def Ladder.violates (l : Ladder) (order p : Nat) : Bool :=
  match order with
  | 1 => decide (p = 0 ∧ l.count = 0)
  | 2 => decide (p < l.count ∧ 9 < (l.slot p).modulation.toNat)
  | 3 => decide (p = 0 ∧ (l.slot 0).enabled = false)
  | 4 => decide (1 ≤ p ∧ p < l.count ∧ ¬ (l.slot (p - 1)).capacity < (l.slot p).capacity)
  | 5 => decide (1 ≤ p ∧ p < l.count ∧ ¬ (l.slot (p - 1)).down < (l.slot p).down)
  | 6 => decide (1 ≤ p ∧ p < l.count ∧ ¬ (l.slot (p - 1)).up < (l.slot p).up)
  | 7 => decide (1 ≤ p ∧ p < l.count ∧ ¬ (l.slot p).down + 5 ≤ (l.slot p).up)
  | _ => false

/-- The reason that the table of R14 gives for condition `order`. -/
def violationReason (order : Nat) : InvalidReason :=
  match order with
  | 1 => .count
  | 2 => .modulation
  | 3 => .referenceDisabled
  | 4 => .capacityOrder
  | 5 => .downOrder
  | 6 => .upOrder
  | _ => .upMargin

/-- The Profile Ladder: both copies in range; every active slot at or beyond the count is blank (R4); a
non-empty active ladder passes validation (R12, R14); the digest is that of the active ladder (R17). -/
abbrev ProfileLadder.Lawful (l : ProfileLadder) : Prop :=
  l.active.Lawful ∧ l.edit.Lawful ∧ (∀ i, i < 12 → l.active.count ≤ i → l.active.slot i = Entry.blank)
    ∧ (l.active.count = 0 ∨ l.active.failure = none) ∧ l.digest = l.active.digest

/-- A Branch Monitor with burst threshold `threshold` (R18, R20, R26 to R28, R30, R32, R53). -/
abbrev Monitor.Lawful (threshold : Nat) (m : Monitor) : Prop :=
  m.burst ≤ threshold ∧ m.age ≤ 255 ∧ m.ring.length ≤ 16 ∧ (∀ x ∈ m.ring, x ≤ 500)
    ∧ (∀ f ∈ m.filter, f ≤ 32000) ∧ (∀ l ∈ m.rsl, -1000 ≤ l ∧ l ≤ -150)
    ∧ (m.primed = true → m.filter.isSome) ∧ (m.primed = false → m.ring = [])
    ∧ (m.status = .locked → m.primed = true) ∧ (m.status = .absent → m.rsl = none)
    ∧ (m.status ≠ .absent → m.rsl.isSome)

/-- A Fade Classifier: a running timer holds 1 to 65535; in CLEAR the duration timer is stopped and LONG_FADE is
clear, and while LONG_FADE is set the duration timer is stopped (R38, R43). -/
abbrev FadeClassifier.Lawful (f : FadeClassifier) : Prop :=
  (∀ n ∈ f.duration, 1 ≤ n ∧ n ≤ 65535) ∧ (∀ n ∈ f.recurrence, 1 ≤ n ∧ n ≤ 65535)
    ∧ (f.faded = false → f.duration = none ∧ f.longFade = false)
    ∧ (f.longFade = true → f.duration = none)

/-- The Peer Channel: *L* is set exactly outside DOWN; in DOWN the counts are 0 and the peer fields cleared; it
is never UP with the echo mismatch counter at 3; the ring holds at most 16 challenges (R66, R74, R76). -/
abbrev PeerChannel.Lawful (k : PeerChannel) : Prop :=
  (k.lastFar.isSome ↔ k.state ≠ .down) ∧ k.mismatch ≤ 3 ∧ (k.state = .up → k.mismatch < 3 ∧ k.verify = 8)
    ∧ (k.state = .verifying → k.verify < 8) ∧ k.foreign ≤ 254 ∧ k.silence ≤ 999
    ∧ (k.state = .down → k.verify = 0 ∧ k.mismatch = 0 ∧ k.silence = 0 ∧ k.fields = PeerFields.cleared)
    ∧ k.ring.length ≤ 16

/-- The Capacity Link Interface: at most 8 replies wait; with no read in flight no reply and no alert waits;
with the framing DOWN no read is in flight; the newest record carries the generation (R141, R144, R148). -/
abbrev CapacityLink.Lawful (k : CapacityLink) : Prop :=
  k.replies.length ≤ 8 ∧ (k.held = none → k.replies = [] ∧ k.alert = none)
    ∧ (k.framing = false → k.held = none) ∧ (k.buffer k.newest).generation = k.generation

/-- The Control Link Interface: the attention line follows the pending set and the mask (R173); the reported
set holds only pending events (R174); the input store holds at most 512 bytes, and the incomplete frame is
incomplete and younger than 8 strobes (R166, R167). -/
abbrev ControlLink.Lawful (k : ControlLink) : Prop :=
  k.attention = attentionOf k.events k.mask ∧ k.reported.all (fun r => r &&& k.events == r) = true
    ∧ k.stored ≤ 512 ∧ k.frameStrobes < 8
    ∧ (k.lost = none → frameComplete k.incomplete = false) ∧ k.lost ≠ some (.remaining 0)

/-- The Link Supervisor: ADAPTIVE and PINNED only while the channel is UP and the peer digest equals the local
digest (R160); the pin profile is an enabled active entry (R154); in OFFLINE the channel is DOWN (R80); outside
OFFLINE the active ladder is not empty (R156). -/
abbrev State.LinkLawful (s : State) : Prop :=
  (s.link.adapting = true → s.peer.state = .up ∧ s.peer.fields.digest = some s.ladder.digest)
    ∧ (∀ p ∈ s.link.pin?, s.ladder.active.enabledAt p = true)
    ∧ (s.link = .offline → s.peer.state = .down)
    ∧ (s.link ≠ .offline → s.ladder.active.count ≠ 0)

/-- The RAE: *e* is an enabled active entry outside OFFLINE; a pending commit names an enabled active entry other
than *e*, and none is pending in OFFLINE (R88, R107, R108, R114). -/
abbrev State.RaeLawful (s : State) : Prop :=
  (s.link ≠ .offline → s.ladder.active.enabledAt s.rae.e = true)
    ∧ (∀ k ∈ s.rae.commit, k.profile ≠ s.rae.e ∧ s.ladder.active.enabledAt k.profile = true)
    ∧ (s.link = .offline → s.rae.commit = none)

/-- The TAE: *c* is an enabled active entry outside OFFLINE; a drain is toward an enabled entry below *c*, in
adaptive operation, with its timer below its limit; a commit names an enabled entry other than *c*, and its
switch superframe is after *n*_last or exactly half the numbering away; *n*_last is set when *c* is not 0 or a
drain or commit is present; in OFFLINE the TAE is STEADY at 0 (R118, R119, R131, R134). -/
abbrev State.TaeLawful (s : State) : Prop :=
  (s.link ≠ .offline → s.ladder.active.enabledAt s.tae.c = true)
    ∧ (s.link = .offline → s.tae.c = 0 ∧ s.tae.state = .steady)
    ∧ (s.tae.c ≠ 0 ∨ s.tae.state ≠ .steady → s.tae.lastSlot.isSome)
    ∧ (∀ x ∈ s.tae.state.drain?, x.target < s.tae.c ∧ s.ladder.active.enabledAt x.target = true
        ∧ s.link.adapting = true ∧ x.timer < x.limit)
    ∧ (∀ k ∈ s.tae.commit?, k.profile ≠ s.tae.c ∧ s.ladder.active.enabledAt k.profile = true
        ∧ s.tae.lastSlot.all (fun l => isAfter k.switch l || decide ((l - k.switch).toNat = 32768)) = true)

/-- The Diversity Selector: the selection dwell count, and an estimate within its ranges (R50, R60). -/
abbrev Selector.InRange (k : Selector) : Prop :=
  k.dwell ≤ 999
    ∧ ∀ x ∈ k.estimate, x.snr ≤ 500 ∧ -500 ≤ x.slope ∧ x.slope ≤ 500 ∧ -1000 ≤ x.rsl ∧ x.rsl ≤ -150

/-- The counts and profiles of the RAE lie in the ranges of the table of R88. -/
abbrev Rae.InRange (r : Rae) : Prop :=
  r.e ≤ 11 ∧ r.request.profile ≤ 11 ∧ (∀ k ∈ r.commit, k.profile ≤ 11) ∧ r.dwell ≤ 65535
    ∧ r.timeAtProfile ≤ 65535 ∧ r.stall ≤ 4096 ∧ r.follow ≤ 15 ∧ (∀ p ∈ r.candidate, p ≤ 11)
    ∧ (∀ x ∈ r.predicted, x ≤ 500)

/-- The counts and profiles of the TAE lie in the ranges of the table of R118. -/
abbrev Tae.InRange (t : Tae) : Prop :=
  t.c ≤ 11 ∧ t.attenuation ≤ 80 ∧ t.slew ≤ 127 ∧ (∀ k ∈ t.commit?, k.profile ≤ 11)
    ∧ (∀ x ∈ t.state.drain?, x.target ≤ 11 ∧ x.timer ≤ 1000 ∧ 1 ≤ x.limit ∧ x.limit ≤ 1000)

/-- The attenuation lies between its limits, and is att min when ATPC enable is off (R136). -/
abbrev State.PowerLawful (s : State) : Prop :=
  s.params.attMin ≤ s.tae.attenuation ∧ s.tae.attenuation ≤ s.params.attMax
    ∧ (s.params.atpc = false → s.tae.attenuation = s.params.attMin)

/-- The laws that tie the link state, the ladder, the channel and the two engines together. -/
abbrev State.EnginesLawful (s : State) : Prop :=
  s.ladder.Lawful ∧ s.params.Lawful ∧ s.peer.Lawful ∧ s.LinkLawful ∧ s.RaeLawful ∧ s.TaeLawful

/-- The newest Capacity Record shows the part as it stands (R143, R144). -/
abbrev State.RecordCurrent (s : State) : Prop :=
  s.capacity.buffer s.capacity.newest = recordNow s.capacity.generation s

/-- Every law of the state. -/
abbrev State.Lawful (s : State) : Prop :=
  s.EnginesLawful ∧ s.PowerLawful ∧ s.RecordCurrent
    ∧ s.monitor.a.Lawful s.params.burstThreshold.a ∧ s.monitor.b.Lawful s.params.burstThreshold.b
    ∧ s.fade.a.Lawful ∧ s.fade.b.Lawful ∧ s.capacity.Lawful ∧ s.control.Lawful

end Sys2Proof.Machine
end

