-- ==== Sys2Proof/Certificates/Slice0/Obligations.lean ====
section
/-! DEFINITION. The statements for the provers, in the order of OBLIGATIONS.json. A statement about a command says
what `exec` answers; a Control Link command is stated from the state `t` in which its turn finds it, and `respond`,
`turn` and `raise` have statements of their own. -/

open Sys2Proof Sys2Proof.Machine

/-! ### The queue, totality, reset -/

/-- The command at the front of the queue is carried out with the rest of the queue waiting; on an empty queue the
part idles. The model's own form: assumption 1. -/
def Obligations.StepRunsTheFrontCommand : Prop :=
  ∀ (c : Instr) (rest : List Instr) (s : State),
    step { s with pending := c :: rest } = exec c { s with pending := rest }
      ∧ step { s with pending := [] } = .next { s with pending := [] }

/-- No command stops the part; none touches the queue, and nothing that has left on a link is taken back. The
manual gives every operation and event an effect and describes no stop; the queue and the log of what has left are
the model's own fields (assumptions 1 and 6). -/
def Obligations.EveryCommandCompletes : Prop :=
  ∀ (c : Instr) (s : State), ∃ t, exec c s = .next t ∧ t.pending = s.pending
    ∧ s.sent.control <+: t.sent.control ∧ s.sent.capacity <+: t.sent.capacity
    ∧ s.sent.modem.a <+: t.sent.modem.a ∧ s.sent.modem.b <+: t.sent.modem.b

/-- The state after power-on reset, from each block's table of state. -/
def Obligations.ResetHoldsTheStatedValues : Prop :=
  State.reset.ladder.active.count = 0 ∧ State.reset.ladder.edit.count = 0
    ∧ (∀ i, i < 12 → State.reset.ladder.active.slot i = ⟨false, 0, 0, 0, 0, 0, 0⟩
        ∧ State.reset.ladder.edit.slot i = ⟨false, 0, 0, 0, 0, 0, 0⟩)
    ∧ State.reset.ladder.digest = 0xE1F0#16
    ∧ (∀ l : Branch, (State.reset.modem.get l).up = false
        ∧ (State.reset.monitor.get l).status = .absent ∧ (State.reset.monitor.get l).filter = none
        ∧ (State.reset.monitor.get l).primed = false ∧ (State.reset.monitor.get l).ring = []
        ∧ (State.reset.monitor.get l).rsl = none ∧ (State.reset.monitor.get l).age = 255
        ∧ (State.reset.monitor.get l).burst = 0
        ∧ (State.reset.fade.get l).faded = false ∧ (State.reset.fade.get l).duration = none
        ∧ (State.reset.fade.get l).recurrence = none ∧ (State.reset.fade.get l).longFade = false
        ∧ (State.reset.fade.get l).fastFading = false ∧ State.reset.selector.excluded.get l = false
        ∧ State.reset.selector.usable.get l = false)
    ∧ State.reset.selector.mode = none ∧ State.reset.selector.modeWrite = false
    ∧ State.reset.selector.active = .a ∧ State.reset.selector.dwell = 0
    ∧ State.reset.selector.lastOrder = none ∧ State.reset.selector.estimate = none
    ∧ State.reset.peer.state = .down ∧ State.reset.peer.verify = 0 ∧ State.reset.peer.mismatch = 0
    ∧ State.reset.peer.foreign = 0 ∧ State.reset.peer.silence = 0 ∧ State.reset.peer.lastFar = none
    ∧ State.reset.peer.fields = ⟨false, none, none, ⟨0, .none⟩, .hold, none, 0, none⟩
    ∧ State.reset.peer.nextChallenge = 90#8 ∧ State.reset.peer.ring = []
    ∧ State.reset.rae.e = 0 ∧ State.reset.rae.request = ⟨0, .none⟩ ∧ State.reset.rae.commit = none
    ∧ State.reset.rae.power = .hold ∧ State.reset.rae.deferred = false ∧ State.reset.rae.dwell = 0
    ∧ State.reset.rae.timeAtProfile = 0 ∧ State.reset.rae.overflowNoted = false ∧ State.reset.rae.stall = 0
    ∧ State.reset.rae.stallReported = false ∧ State.reset.rae.follow = 0 ∧ State.reset.rae.candidate = none
    ∧ State.reset.rae.lastHeader = none ∧ State.reset.rae.predicted = none
    ∧ State.reset.tae.c = 0 ∧ State.reset.tae.state = .steady ∧ State.reset.tae.lastSlot = none
    ∧ State.reset.tae.fallbackOwed = false ∧ State.reset.tae.attenuation = 40 ∧ State.reset.tae.slew = 0
    ∧ State.reset.capacity.framing = false
    ∧ (∀ b : Buffer, State.reset.capacity.buffer b = ⟨0#16, 0, 0, 0, .none, 0, 0, .none⟩)
    ∧ State.reset.capacity.newest = .b0 ∧ State.reset.capacity.held = none
    ∧ State.reset.capacity.generation = 0#16 ∧ State.reset.capacity.replies = []
    ∧ State.reset.capacity.alert = none ∧ State.reset.link = .offline
    ∧ State.reset.control.events = Event.restarted.flag ∧ State.reset.control.mask = 0#21
    ∧ State.reset.control.reported = none ∧ State.reset.control.attention = true
    ∧ State.reset.control.frames = [] ∧ State.reset.control.incomplete = [] ∧ State.reset.control.lost = none
    ∧ State.reset.control.frameStrobes = 0 ∧ State.reset.control.resetPending = false
    ∧ [ParamId.smoothingShift, .slopeSpan, .horizon, .upshiftDwell, .burstThresholdA, .burstThresholdB,
        .fadeThresholdA, .fadeThresholdB, .fadeHysteresis, .durationLimit, .recurrenceLimit, .mode,
        .selectHysteresis, .selectDwell, .followCount, .commitLead, .emergencyLead, .drainTimeout, .stallLimit,
        .peerTimeout, .ownHop, .peerHop, .hopMask, .foreignThreshold, .atpc, .rslLow, .rslHigh, .attMin, .attMax,
        .slewIndex].map State.reset.params.read
      = [3, 8, 40, 200, 31, 31, 150, 150, 10, 2000, 10000, 3, 20, 10, 3, 32, 8, 20, 256, 50, 0, 0, 0xFFFFF, 16, 1,
          -550, -450, 0, 40, 2]
    ∧ allCounters State.reset = List.replicate 34 0#32

/-- Every law of Safety.lean holds after power-on reset. -/
def Obligations.LawsHoldAtReset : Prop :=
  State.reset.Lawful ∧ State.reset.selector.InRange ∧ State.reset.rae.InRange ∧ State.reset.tae.InRange

/-! ### Bytes -/

/-- The byte sequences that the manual writes out: the CRC check values and the serialization of reference ladder
entry 5; and the START frame of R190 with its CRC is the command START. Then the layout of everything that the part
sends, byte by byte: the overhead word (R186), the Receive, Branch and Transmit Orders (R188), the Capacity Record
with its closing status, BUSY, DRAIN ANSWER and the Capacity Alert (R189), and the response frames with their codes
and reasons (R168, R190). -/
def Obligations.WrittenOutBytesAreReproduced : Prop :=
  (crc16 [0x00#8] = 0xE1F0#16
    ∧ crc16 [0x31#8, 0x32#8, 0x33#8, 0x34#8, 0x35#8, 0x36#8, 0x37#8, 0x38#8, 0x39#8] = 0x29B1#16
    ∧ Entry.bytes ⟨true, 5#4, 1#3, 168000, 255, 280, 200⟩
      = [0xA9#8, 0x00#8, 0x02#8, 0x90#8, 0x40#8, 0x00#8, 0xFF#8, 0x01#8, 0x18#8, 0x00#8, 0xC8#8]
    ∧ CapacityRecord.bytes .generationZero
      = List.replicate 9 0#8 ++ List.replicate 5 0xFF#8 ++ List.replicate 8 0#8 ++ List.replicate 5 0xFF#8
        ++ List.replicate 2 0#8
    ∧ decodeFrame ([0x20#8, 0x00#8] ++ be16 (crc16 [0x20#8, 0x00#8])) = .command .start)
  ∧ (∀ w : OverheadWord, (∀ k ∈ w.commit, k.profile < 16) → w.request.profile < 16 → w.txProfile < 16 →
      w.headroom ≤ 80 →
      ∃ fields : List Byte, w.bytes = fields ++ be16 (crc16 fields)
        ∧ fields =
          [byteOf (w.hopId.toNat / 4096), byteOf (w.hopId.toNat / 16),
           byteOf (16 * (w.hopId.toNat % 16) + (if w.adapt then 8 else 0) + (if w.echo.isSome then 4 else 0)
             + (if w.commit.isSome then 2 else 0)),
           (match w.echo with
            | some x => x
            | none => 0#8),
           byteOf ((match w.commit with
              | some k => 16 * k.profile
              | none => 0) + w.txProfile)]
          ++ be16 (match w.commit with
              | some k => k.switch
              | none => 0#16)
          ++ [w.challenge,
              byteOf (16 * w.request.profile
                + (match w.request.kind with
                   | .none => 0
                   | .normal => 4
                   | .emergency => 8)
                + (match w.power with
                   | .hold => 0
                   | .raise => 1
                   | .lower => 2
                   | .max => 3)),
              byteOf w.headroom]
          ++ be16 w.digest)
  ∧ ((∀ type body, sealMessage type body = type :: (body ++ be16 (crc16 (type :: body))))
    ∧ (∀ o : ReceiveOrder, o.profile < 16 →
        ModemMessage.bytes (.receive o) = sealMessage 0x11#8
          ([byteOf ((if o.start = none then 128 else 0) + o.profile)]
            ++ be16 (match o.start with
                | some n => n
                | none => 0#16)
            ++ [byteOf (16 * o.modulation.toNat + o.codeClass.toNat)]))
    ∧ ModemMessage.bytes (.branch .a) = sealMessage 0x12#8 [0#8]
    ∧ ModemMessage.bytes (.branch .b) = sealMessage 0x12#8 [1#8]
    ∧ ModemMessage.bytes (.branch .combine) = sealMessage 0x12#8 [2#8]
    ∧ (∀ n a, ModemMessage.bytes (.transmit ⟨n, a, none⟩)
        = sealMessage 0x13#8 (be16 n ++ [0x80#8, 0#8, byteOf a]))
    ∧ (∀ n a (x : TransmitContent), x.profile < 16 →
        ModemMessage.bytes (.transmit ⟨n, a, some x⟩)
          = sealMessage 0x13#8 (be16 n
            ++ [byteOf x.profile, byteOf (16 * x.modulation.toNat + x.codeClass.toNat), byteOf a] ++ x.word)))
  ∧ ((∀ r : CapacityRecord, r.bytes =
        be16 r.generation ++ [byteOf r.link, byteOf r.txProfile] ++ be32 (BitVec.ofNat 32 r.txCapacity)
          ++ (match r.tx with
              | .none => [0#8, 0xFF#8, 0xFF#8, 0xFF#8, 0xFF#8, 0xFF#8, 0#8, 0#8]
              | .drainRequested p k => [1#8, byteOf p] ++ be32 (BitVec.ofNat 32 k) ++ [0#8, 0#8]
              | .committed p k n => [2#8, byteOf p] ++ be32 (BitVec.ofNat 32 k) ++ be16 n)
          ++ [byteOf r.rxProfile] ++ be32 (BitVec.ofNat 32 r.rxCapacity)
          ++ (match r.rx with
              | .none => [0#8, 0xFF#8, 0xFF#8, 0xFF#8, 0xFF#8, 0xFF#8, 0#8, 0#8]
              | .committed p k n => [1#8, byteOf p] ++ be32 (BitVec.ofNat 32 k) ++ be16 n)
        ∧ r.bytes.length = 29
        ∧ completeRecordMessage r = sealMessage 0x31#8 (r.bytes ++ [0#8])
        ∧ ∀ n, abortedRecordMessage r n = sealMessage 0x31#8 (r.bytes.take n ++ [1#8]))
    ∧ Reply.busy.bytes = sealMessage 0x32#8 []
    ∧ (∀ (p : BitVec 4) g, Reply.bytes (.drainAnswer .accepted p g)
        = sealMessage 0x33#8 ([0#8, byteOf p.toNat] ++ be16 g))
    ∧ (∀ (p : BitVec 4) g, Reply.bytes (.drainAnswer .late p g)
        = sealMessage 0x33#8 ([1#8, byteOf p.toNat] ++ be16 g))
    ∧ (∀ p k g, CapacityAlert.bytes ⟨p, k, none, g⟩
        = sealMessage 0x34#8 ([0#8, byteOf p] ++ be32 (BitVec.ofNat 32 k) ++ [0#8, 0#8] ++ be16 g))
    ∧ (∀ p k n g, CapacityAlert.bytes ⟨p, k, some n, g⟩
        = sealMessage 0x34#8 ([1#8, byteOf p] ++ be32 (BitVec.ofNat 32 k) ++ be16 n ++ be16 g)))
  ∧ ((∀ code body, controlFrame code body
        = (code :: byteOf body.length :: body) ++ be16 (crc16 (code :: byteOf body.length :: body)))
    ∧ (∀ body, (Response.ok body).frame = controlFrame 0x00#8 body)
    ∧ (∀ body, (Response.clamped body).frame = controlFrame 0x01#8 body)
    ∧ Response.refusedState.frame = controlFrame 0x80#8 []
    ∧ Response.refusedNoLadder.frame = controlFrame 0x81#8 []
    ∧ Response.refusedInTransition.frame = controlFrame 0x82#8 []
    ∧ (∀ index reason, (Response.refusedInvalid index reason).frame = controlFrame 0x83#8
        [byteOf index,
         (match reason with
          | .count => 1#8
          | .modulation => 2#8
          | .referenceDisabled => 3#8
          | .capacityOrder => 4#8
          | .downOrder => 5#8
          | .upOrder => 6#8
          | .upMargin => 7#8
          | .indexRange => 8#8)])
    ∧ Response.refusedReference.frame = controlFrame 0x84#8 []
    ∧ Response.refusedProfile.frame = controlFrame 0x85#8 []
    ∧ Response.refusedInconsistent.frame = controlFrame 0x86#8 []
    ∧ Response.refusedUnknown.frame = controlFrame 0x87#8 []
    ∧ Response.refusedFormat.frame = controlFrame 0x88#8 [])

/-- Every command of the Control Link has the command byte and the body of its row of R190, framed with its length and
CRC; the frame is complete, and with any operands it is read back as itself. -/
def Obligations.CommandFramesRoundTrip : Prop :=
  (∀ (c : Instr) (f : List Byte), commandFrame c = some f →
    frameComplete f = true ∧ decodeFrame f = .command c)
  ∧ (∀ (c : Instr) (code : Byte) (body : List Byte), commandBody c = some (code, body) →
      commandFrame c = some ((code :: byteOf body.length :: body)
        ++ be16 (crc16 (code :: byteOf body.length :: body))))
  ∧ (commandBody .readStatus = some (0x01#8, [])
    ∧ commandBody .clearEvents = some (0x02#8, [])
    ∧ (∀ m, commandBody (.setEventMask m)
        = some (0x03#8, [byteOf (m.toNat / 65536), byteOf (m.toNat / 256), byteOf m.toNat]))
    ∧ commandBody .readCounters = some (0x04#8, [])
    ∧ commandBody .clearCounters = some (0x05#8, [])
    ∧ (∀ i v, commandBody (.setParameter i v)
        = some (0x06#8, [i, byteOf (v.toNat / 16777216), byteOf (v.toNat / 65536), byteOf (v.toNat / 256),
            byteOf v.toNat]))
    ∧ (∀ i, commandBody (.readParameter i) = some (0x07#8, [i]))
    ∧ (∀ i e, commandBody (.writeLadderEntry i e)
        = some (0x10#8, [i,
            byteOf ((if e.enabled then 128 else 0) + 8 * e.modulation.toNat + e.codeClass.toNat),
            byteOf (e.capacity.toNat / 16777216), byteOf (e.capacity.toNat / 65536),
            byteOf (e.capacity.toNat / 256), byteOf e.capacity.toNat,
            byteOf (e.down.toNat / 256), byteOf e.down.toNat, byteOf (e.up.toNat / 256), byteOf e.up.toNat,
            byteOf (e.minDwell.toNat / 256), byteOf e.minDwell.toNat]))
    ∧ (∀ copy i, commandBody (.readLadderEntry copy i) = some (0x11#8, [copy, i]))
    ∧ (∀ n, commandBody (.setLadderCount n) = some (0x12#8, [n]))
    ∧ commandBody .commitLadder = some (0x13#8, [])
    ∧ commandBody .revertLadder = some (0x14#8, [])
    ∧ commandBody .start = some (0x20#8, [])
    ∧ commandBody .stop = some (0x21#8, [])
    ∧ commandBody .hold = some (0x22#8, [])
    ∧ commandBody .resume = some (0x23#8, [])
    ∧ (∀ p, commandBody (.pin p) = some (0x24#8, [p]))
    ∧ commandBody .unpin = some (0x25#8, [])
    ∧ (∀ l, commandBody (.excludeBranch l) = some (0x30#8, [l]))
    ∧ (∀ l, commandBody (.includeBranch l) = some (0x31#8, [l]))
    ∧ commandBody .softReset = some (0x40#8, [])
    ∧ ∀ c code body, commandBody c = some (code, body) →
        code.toNat ∈ [0x01, 0x02, 0x03, 0x04, 0x05, 0x06, 0x07, 0x10, 0x11, 0x12, 0x13, 0x14, 0x20, 0x21, 0x22, 0x23,
          0x24, 0x25, 0x30, 0x31, 0x40])

/-- A frame is judged by checks 1 to 3 of R166 in their order: a bad CRC, an unknown command byte, a length that is
not the command's; a frame that passes is a command whose code and body are the frame's. -/
def Obligations.FramesAreJudgedInOrder : Prop :=
  ∀ (code len h l : Byte) (body : List Byte), body.length = len.toNat →
    frameComplete (code :: len :: (body ++ [h, l])) = true
      ∧ (h ++ l ≠ crc16 (code :: len :: body) →
          decodeFrame (code :: len :: (body ++ [h, l])) = .refused .refusedFormat)
      ∧ (h ++ l = crc16 (code :: len :: body) → (∀ c x, commandBody c ≠ some (code, x)) →
          decodeFrame (code :: len :: (body ++ [h, l])) = .refused .refusedUnknown)
      ∧ (h ++ l = crc16 (code :: len :: body) → (∃ c x, commandBody c = some (code, x)) →
          (∀ c x, commandBody c = some (code, x) → x.length ≠ body.length) →
          decodeFrame (code :: len :: (body ++ [h, l])) = .refused .refusedFormat)
      ∧ (h ++ l = crc16 (code :: len :: body) →
          (∃ c x, commandBody c = some (code, x) ∧ x.length = body.length) →
          ∃ c, decodeFrame (code :: len :: (body ++ [h, l])) = .command c ∧ commandBody c = some (code, body))

/-- An overhead word whose fields lie in the ranges of R69 is 14 bytes, passes stage 1, and is read back whole. So are the
messages that arrive on the Modem Links and the Capacity Link. A message is discarded when it has less than three bytes,
a CRC that does not match, a type byte that its link does not carry in that direction, a body length not allowed for its
type, or a word-present flag that disagrees with the body length (R183). The fields of a word, a Branch Report, a slot
request and a DRAIN READY are read from the bits of R186, R188 and R189 alone, so that spare bits are ignored (R185);
headroom codes above 80 are read as 80 and request kind code 3 as NONE (R69). -/
def Obligations.MessagesRoundTrip : Prop :=
  (∀ w : OverheadWord, (∀ k ∈ w.commit, k.profile < 16) → w.request.profile < 16 → w.txProfile < 16 →
    w.headroom ≤ 80 →
    w.bytes.length = 14 ∧ wordIntact w.bytes = true ∧ OverheadWord.parse w.bytes = some w)
  ∧ ((∀ r : Report, r.rawSnr < 1024 → -32768 ≤ r.rsl → r.rsl ≤ 32767 → r.errored < 65536 →
      (∀ h ∈ r.header, h.profile < 16) → (∀ w ∈ r.word, w.length = 14) → receiveReport r.message = some r)
    ∧ (∀ n, receiveSlotRequest .a (slotRequestMessage n) = some n)
    ∧ (∀ m, receiveSlotRequest .b m = none)
    ∧ (∀ p, receiveDrainReady (drainReadyMessage p) = some p)
    ∧ receiveCapacityRead capacityReadMessage = true
    ∧ (∀ m, m.length < 3 → openMessage m = none)
    ∧ (∀ type body h l, h ++ l ≠ crc16 (type :: body) → openMessage (type :: (body ++ [h, l])) = none))
  ∧ (∀ m, openMessage m = none → receiveReport m = none ∧ receiveSlotRequest .a m = none
      ∧ receiveCapacityRead m = false ∧ receiveDrainReady m = none)
  ∧ (∀ type body, openMessage (sealMessage type body) = some (type, body)
      ∧ ((type ≠ 0x01#8 ∨ (body.length ≠ 9 ∧ body.length ≠ 23)) → receiveReport (sealMessage type body) = none)
      ∧ ((type ≠ 0x02#8 ∨ body.length ≠ 2) → receiveSlotRequest .a (sealMessage type body) = none)
      ∧ ((type ≠ 0x21#8 ∨ body.length ≠ 0) → receiveCapacityRead (sealMessage type body) = false)
      ∧ ((type ≠ 0x22#8 ∨ body.length ≠ 1) → receiveDrainReady (sealMessage type body) = none))
  ∧ (∀ (b0 b1 b2 b3 b4 b5 b6 b7 b8 : Byte) (word body : List Byte),
      body = b0 :: b1 :: b2 :: b3 :: b4 :: b5 :: b6 :: b7 :: b8 :: word →
      ((b0.toNat / 32 % 2 = 0 ∧ word ≠ []) ∨ (b0.toNat / 32 % 2 = 1 ∧ word.length ≠ 14) →
        receiveReport (sealMessage 0x01#8 body) = none)
      ∧ ((b0.toNat / 32 % 2 = 0 ∧ word = []) ∨ (b0.toNat / 32 % 2 = 1 ∧ word.length = 14) →
        receiveReport (sealMessage 0x01#8 body) = some
          { locked := decide (b0.toNat / 128 = 1)
            rawSnr := 256 * (b0.toNat % 4) + b1.toNat
            rsl := if b2.toNat < 128 then 256 * b2.toNat + b3.toNat else 256 * b2.toNat + b3.toNat - 65536
            errored := 256 * b4.toNat + b5.toNat
            header := if b0.toNat / 64 % 2 = 1 then some ⟨b6 ++ b7, b8.toNat % 16⟩ else none
            word := if b0.toNat / 32 % 2 = 1 then some word else none }))
  ∧ (∀ b0 b1 : Byte, receiveSlotRequest .a (sealMessage 0x02#8 [b0, b1]) = some (b0 ++ b1))
  ∧ (∀ b0 : Byte, receiveDrainReady (sealMessage 0x22#8 [b0]) = some (BitVec.ofNat 4 b0.toNat))
  ∧ (∀ b0 b1 b2 b3 b4 b5 b6 b7 b8 b9 b10 b11 b12 b13 : Byte,
      OverheadWord.parse [b0, b1, b2, b3, b4, b5, b6, b7, b8, b9, b10, b11, b12, b13] = some
        { hopId := BitVec.ofNat 20 (4096 * b0.toNat + 16 * b1.toNat + b2.toNat / 16)
          adapt := decide (b2.toNat / 8 % 2 = 1)
          echo := if b2.toNat / 4 % 2 = 1 then some b3 else none
          commit := if b2.toNat / 2 % 2 = 1 then some ⟨b4.toNat / 16, b5 ++ b6⟩ else none
          challenge := b7
          request := ⟨b8.toNat / 16, match b8.toNat / 4 % 4 with
            | 1 => .normal
            | 2 => .emergency
            | _ => .none⟩
          power := match b8.toNat % 4 with
            | 0 => .hold
            | 1 => .raise
            | 2 => .lower
            | _ => .max
          txProfile := b4.toNat % 16
          headroom := min 80 (b9.toNat % 128)
          digest := b10 ++ b11 })

/-! ### The Control Link Interface -/

/-- A command of the Control Link is taken in its turn: no response to SOFT RESET is being sent, and the frames that
wait are none, or begin with this command's, which leaves the store. Out of turn it changes nothing. UNKNOWN_COMMAND, a
complete frame that fails check 1, 2 or 3, is answered with the failing check's response in its turn and changes no
state beyond its response. The turn is the model's reading of R167: assumption 4. -/
def Obligations.CommandsKeepTheirTurn : Prop :=
  (∀ (c : Instr) (s : State),
    (∀ t, turn c s = some t ↔
      s.control.resetPending = false ∧
        ((s.control.frames = [] ∧ t = s)
          ∨ ∃ f rest, s.control.frames = .complete f :: rest ∧ decodeFrame f = .command c
              ∧ t = { s with control := { s.control with frames := rest } }))
      ∧ ((commandBody c).isSome = true → turn c s = none → exec c s = .next s))
  ∧ (∀ (f : List Byte) (r : Response) (s : State), frameComplete f = true → decodeFrame f = .refused r →
    s.control.resetPending = false →
    (s.control.frames = [] → exec (.unknownCommand f) s = .next (respond r s))
      ∧ (∀ rest, s.control.frames = .complete f :: rest →
          exec (.unknownCommand f) s
            = .next (respond r { s with control := { s.control with frames := rest } }))
      ∧ (∀ g rest, s.control.frames = g :: rest → g ≠ .complete f → exec (.unknownCommand f) s = .next s))

/-- A response leaves, and with it the answers that it held up: each frame right behind the answered one that timed out
or lost a byte is answered REFUSED_FORMAT, in order, up to the next complete frame. That such a frame is held and
answered in its turn is assumption 10, and that a response leaves at once is assumption 4. -/
def Obligations.ResponsesLeaveInOrder : Prop :=
  ∀ (r : Response) (s : State) (owed : List HeldFrame) (rest : List HeldFrame),
    s.control.frames = owed ++ rest → (∀ f ∈ owed, ∃ bytes, f = .failed bytes) →
    (∀ bytes, rest.head? ≠ some (.failed bytes)) →
    respond r s =
      { s with
        sent := { s.sent with
          control := s.sent.control ++ [r.frame] ++ owed.map (fun _ => Response.refusedFormat.frame) }
        control := { s.control with frames := rest } }

/-- Raising an event makes it pending once and takes it out of the reported set; the attention line is asserted
exactly while some pending event is not masked; nothing else changes. -/
def Obligations.RaisedEventsArePending : Prop :=
  ∀ (e : Event) (s : State),
    (∀ x : Event, (raise e s).control.events.has x = (s.control.events.has x || decide (x = e)))
      ∧ ((raise e s).control.attention = true ↔
          ∃ x : Event, (raise e s).control.events.has x = true ∧ s.control.mask.has x = false)
      ∧ (s.control.reported = none → (raise e s).control.reported = none)
      ∧ (∀ r, s.control.reported = some r → ∃ r', (raise e s).control.reported = some r'
          ∧ ∀ x : Event, r'.has x = (r.has x && decide (x ≠ e)))
      ∧ raise e s =
        { s with control :=
          { s.control with
            events := (raise e s).control.events
            attention := (raise e s).control.attention
            reported := (raise e s).control.reported } }

/-- READ STATUS answers OK with the 60 bytes of the report, each item in its place, and sets the reported set to the
pending set; it changes nothing else. The code of the RAE state (byte 4) rests on assumption 8, and the two bytes after
the presence byte of an absent digest (bytes 24 and 25) on assumption 17. -/
def Obligations.ReadStatusReportsTheState : Prop :=
  ∀ s t : State, turn .readStatus s = some t →
    ∃ report branch, exec .readStatus s =
        .next (respond (.ok report) { t with control := { t.control with reported := some t.control.events } })
      ∧ report.length = 60
      ∧ (branch = fun (m : Monitor) (f : FadeClassifier) =>
          [match m.status with
           | .absent => 0#8
           | .unlocked => 1#8
           | .locked => 2#8]
          ++ (match m.filter with
              | some x => be16 (BitVec.ofNat 16 ((x + 32) / 64))
              | none => [0x80#8, 0#8])
          ++ be16 (BitVec.ofInt 16 (m.slope t.params.slopeSpan))
          ++ (match m.rsl with
              | some x => be16 (BitVec.ofInt 16 x)
              | none => [0x80#8, 0#8])
          ++ [flagByte f.faded, flagByte f.longFade, flagByte f.fastFading, byteOf m.burst])
      ∧ report =
          [(match t.link with
            | .offline => 0#8
            | .acquire _ => 1#8
            | .adaptive => 2#8
            | .pinned _ => 3#8
            | .fixed => 4#8),
           (match t.link with
            | .acquire .starting => 0#8
            | .acquire .peerDown => 1#8
            | .acquire .ladderMismatch => 2#8
            | _ => 0xFF#8),
           (match t.link with
            | .pinned p => byteOf p
            | _ => 0xFF#8)]
          ++ [byteOf t.rae.e,
              (if t.rae.commit.isSome then 0#8 else if t.rae.request.kind = .none then 2#8 else 1#8),
              byteOf t.rae.request.profile,
              (match t.rae.request.kind with
               | .none => 0#8
               | .normal => 1#8
               | .emergency => 2#8),
              (match t.rae.power with
               | .hold => 0#8
               | .raise => 1#8
               | .lower => 2#8
               | .max => 3#8),
              flagByte t.rae.deferred]
          ++ (match t.rae.commit with
              | some k => byteOf k.profile :: be16 k.switch
              | none => [0xFF#8, 0#8, 0#8])
          ++ (match t.rae.predicted with
              | some x => be16 (BitVec.ofNat 16 x)
              | none => [0x80#8, 0#8])
          ++ [byteOf t.tae.c]
          ++ (match t.tae.state with
              | .steady => [0#8, 0xFF#8, 0xFF#8, 0#8, 0#8]
              | .draining d _ _ => [1#8, byteOf d, 0xFF#8, 0#8, 0#8]
              | .committed k => [2#8, 0xFF#8, byteOf k.profile] ++ be16 k.switch)
          ++ [byteOf t.tae.attenuation]
          ++ [(match t.peer.state with
               | .down => 0#8
               | .verifying => 1#8
               | .up => 2#8),
              flagByte t.peer.fields.adapt]
          ++ (match t.peer.fields.digest with
              | some x => 1#8 :: be16 x
              | none => [0#8, 0#8, 0#8])
          ++ (1#8 :: be16 t.ladder.digest)
          ++ [byteOf t.peer.fields.headroom,
              (match t.peer.fields.txProfile with
               | some p => byteOf p
               | none => 0xFF#8)]
          ++ [(match (match t.selector.mode with
                 | some m => m
                 | none => t.params.mode) with
               | .singleA => 0#8
               | .singleB => 1#8
               | .select => 2#8
               | .combine => 3#8),
              (match t.selector.active with
               | .a => 0#8
               | .b => 1#8)]
          ++ (match t.selector.estimate with
              | some x => be16 (BitVec.ofNat 16 x.snr)
              | none => [0x80#8, 0#8])
          ++ branch t.monitor.a t.fade.a ++ branch t.monitor.b t.fade.b
          ++ be24 (t.control.events.setWidth 24)

/-- CLEAR EVENTS removes what was reported and not raised since, and answers with it; SET EVENT MASK replaces the mask,
the spare bits ignored. The attention line follows, and nothing else changes. -/
def Obligations.EventsAreClearedAndMasked : Prop :=
  (∀ s t : State, turn .clearEvents s = some t →
    ∃ gone : EventSet,
      gone = (match t.control.reported with
              | some r => t.control.events &&& r
              | none => 0#21)
      ∧ exec .clearEvents s =
          .next (respond (.ok (be24 (gone.setWidth 24)))
            { t with control :=
              { t.control with
                events := t.control.events &&& ~~~gone
                reported := none
                attention := decide (t.control.events &&& ~~~gone &&& ~~~t.control.mask ≠ 0#21) } }))
  ∧ (∀ (m : BitVec 24) (s t : State), turn (.setEventMask m) s = some t →
    exec (.setEventMask m) s =
      .next (respond (.ok [])
        { t with control :=
          { t.control with
            mask := m.setWidth 21
            attention := decide (t.control.events &&& ~~~(m.setWidth 21) ≠ 0#21) } }))

/-- READ COUNTERS answers with the 34 counters, four bytes each, in the order of R177; CLEAR COUNTERS sets all 34 to
0 and leaves everything else as it was. -/
def Obligations.CountersAreReadAndCleared : Prop :=
  (∀ s t : State, turn .readCounters s = some t →
    ∃ branch all, exec .readCounters s = .next (respond (.ok (all.flatMap be32)) t)
      ∧ (branch = fun (k : BranchCounters) => [k.lockedReports, k.erroredSuperframes, k.unlockedReports,
          k.lockLosses, k.linkLosses, k.burstOverflows, k.fades, k.longFades])
      ∧ all = branch t.monitor.a.counters ++ branch t.monitor.b.counters
          ++ [t.rae.counters.upSwitches, t.rae.counters.downSwitches, t.rae.counters.emergencies,
              t.rae.counters.follows, t.rae.counters.unknownHeaders, t.rae.counters.ignoredCommits]
          ++ [t.peer.counters.wordsAccepted, t.peer.counters.badCrc, t.peer.counters.foreignWords,
              t.peer.counters.duplicates, t.peer.counters.echoMismatches]
          ++ [t.tae.counters.upSwitches, t.tae.counters.downSwitches, t.tae.counters.emergencies,
              t.tae.counters.badRequests, t.tae.counters.drainTimeouts, t.tae.counters.lateAnswers,
              t.tae.counters.unconfirmedDownshifts]
      ∧ all.length = 34 ∧ (all.flatMap be32).length = 136 ∧ allCounters t = all)
  ∧ (∀ s t : State, turn .clearCounters s = some t →
    ∃ v, exec .clearCounters s = .next (respond (.ok []) v)
      ∧ allCounters v = List.replicate 34 0#32
      ∧ v = { t with
          monitor := ⟨{ t.monitor.a with counters := v.monitor.a.counters },
            { t.monitor.b with counters := v.monitor.b.counters }⟩
          rae := { t.rae with counters := v.rae.counters }
          peer := { t.peer with counters := v.peer.counters }
          tae := { t.tae with counters := v.tae.counters } })

/-- The table of R169: which identifier names which parameter, with its range; any other identifier names none. Then
SET PARAMETER that names no parameter, or a value outside the two coded parameters' codes, or one that would invert a
pair of limits, is refused and changes no state beyond its response. READ PARAMETER answers with the stored value of
identifiers 1 to 30 and REFUSED_FORMAT for any other, and changes no state beyond its response. -/
def Obligations.ParametersAreJudgedAndReadBack : Prop :=
  ((∀ i w, ParamId.ofByte i = some w ↔
      (i.toNat, w) ∈ [(1, ParamId.smoothingShift), (2, .slopeSpan), (3, .horizon), (4, .upshiftDwell),
        (5, .burstThresholdA), (6, .burstThresholdB), (7, .fadeThresholdA), (8, .fadeThresholdB),
        (9, .fadeHysteresis), (10, .durationLimit), (11, .recurrenceLimit), (12, .mode), (13, .selectHysteresis),
        (14, .selectDwell), (15, .followCount), (16, .commitLead), (17, .emergencyLead), (18, .drainTimeout),
        (19, .stallLimit), (20, .peerTimeout), (21, .ownHop), (22, .peerHop), (23, .hopMask),
        (24, .foreignThreshold), (25, .atpc), (26, .rslLow), (27, .rslHigh), (28, .attMin), (29, .attMax),
        (30, .slewIndex)])
    ∧ [ParamId.smoothingShift, .slopeSpan, .horizon, .upshiftDwell, .burstThresholdA, .burstThresholdB,
        .fadeThresholdA, .fadeThresholdB, .fadeHysteresis, .durationLimit, .recurrenceLimit, .mode,
        .selectHysteresis, .selectDwell, .followCount, .commitLead, .emergencyLead, .drainTimeout, .stallLimit,
        .peerTimeout, .ownHop, .peerHop, .hopMask, .foreignThreshold, .atpc, .rslLow, .rslHigh, .attMin, .attMax,
        .slewIndex].map ParamId.range
      = [(0, 6), (1, 15), (1, 255), (1, 4096), (1, 255), (1, 255), (0, 500), (0, 500), (0, 50), (1, 65535),
          (1, 65535), (0, 3), (0, 100), (1, 1000), (1, 15), (8, 255), (4, 255), (1, 1000), (16, 4096), (4, 1000),
          (0, 0xFFFFF), (0, 0xFFFFF), (0, 0xFFFFF), (1, 255), (0, 1), (-1000, -150), (-1000, -150), (0, 80), (0, 80),
          (0, 7)]
    ∧ (∀ p : Params,
        p.read .smoothingShift = p.smoothingShift ∧ p.read .slopeSpan = p.slopeSpan ∧ p.read .horizon = p.horizon
        ∧ p.read .upshiftDwell = p.upshiftDwell ∧ p.read .burstThresholdA = p.burstThreshold.a
        ∧ p.read .burstThresholdB = p.burstThreshold.b ∧ p.read .fadeThresholdA = p.fadeThreshold.a
        ∧ p.read .fadeThresholdB = p.fadeThreshold.b ∧ p.read .fadeHysteresis = p.fadeHysteresis
        ∧ p.read .durationLimit = p.durationLimit ∧ p.read .recurrenceLimit = p.recurrenceLimit
        ∧ p.read .mode = (match p.mode with
            | .singleA => 0
            | .singleB => 1
            | .select => 2
            | .combine => 3)
        ∧ p.read .selectHysteresis = p.selectHysteresis ∧ p.read .selectDwell = p.selectDwell
        ∧ p.read .followCount = p.followCount ∧ p.read .commitLead = p.commitLead
        ∧ p.read .emergencyLead = p.emergencyLead ∧ p.read .drainTimeout = p.drainTimeout
        ∧ p.read .stallLimit = p.stallLimit ∧ p.read .peerTimeout = p.peerTimeout
        ∧ p.read .ownHop = p.ownHop.toNat ∧ p.read .peerHop = p.peerHop.toNat ∧ p.read .hopMask = p.hopMask.toNat
        ∧ p.read .foreignThreshold = p.foreignThreshold ∧ p.read .atpc = (if p.atpc then 1 else 0)
        ∧ p.read .rslLow = p.rslLow ∧ p.read .rslHigh = p.rslHigh ∧ p.read .attMin = p.attMin
        ∧ p.read .attMax = p.attMax ∧ p.read .slewIndex = p.slewIndex))
  ∧ (∀ (i : Byte) (v : BitVec 32) (s t : State), turn (.setParameter i v) s = some t →
    ((i.toNat = 0 ∨ 30 < i.toNat) → exec (.setParameter i v) s = .next (respond .refusedFormat t))
      ∧ (i = 12#8 → (v.toInt < 0 ∨ 3 < v.toInt) →
          exec (.setParameter i v) s = .next (respond .refusedFormat t))
      ∧ (i = 25#8 → (v.toInt < 0 ∨ 1 < v.toInt) →
          exec (.setParameter i v) s = .next (respond .refusedFormat t))
      ∧ (i = 26#8 → t.params.rslHigh ≤ max (-1000) (min (-150) v.toInt) →
          exec (.setParameter i v) s = .next (respond .refusedInconsistent t))
      ∧ (i = 27#8 → max (-1000) (min (-150) v.toInt) ≤ t.params.rslLow →
          exec (.setParameter i v) s = .next (respond .refusedInconsistent t))
      ∧ (i = 28#8 → (t.params.attMax : Int) < max 0 (min 80 v.toInt) →
          exec (.setParameter i v) s = .next (respond .refusedInconsistent t))
      ∧ (i = 29#8 → max 0 (min 80 v.toInt) < (t.params.attMin : Int) →
          exec (.setParameter i v) s = .next (respond .refusedInconsistent t)))
  ∧ (∀ (i : Byte) (s t : State), turn (.readParameter i) s = some t →
    (ParamId.ofByte i = none ↔ i.toNat = 0 ∨ 30 < i.toNat)
      ∧ exec (.readParameter i) s =
          .next (match ParamId.ofByte i with
                 | none => respond .refusedFormat t
                 | some w => respond (.ok (be32 (BitVec.ofInt 32 (t.params.read w)))) t))

/-- SET PARAMETER that is taken stores the value brought into its range, answers OK or CLAMPED with the stored value,
and makes the effects of R171 and R136 and no other. -/
def Obligations.ParameterWritesAreTaken : Prop :=
  ∀ (i : Byte) (v : BitVec 32) (s t : State) (w : ParamId) (x : Int), turn (.setParameter i v) s = some t →
    ParamId.ofByte i = some w → x = max w.range.1 (min w.range.2 v.toInt) →
    (w = .mode ∨ w = .atpc → x = v.toInt) →
    (w = .rslLow → x < t.params.rslHigh) → (w = .rslHigh → t.params.rslLow < x) →
    (w = .attMin → x ≤ t.params.attMax) → (w = .attMax → (t.params.attMin : Int) ≤ x) →
    ∃ u, exec (.setParameter i v) s
        = .next (respond (if x = v.toInt then .ok [] else .clamped (be32 (BitVec.ofInt 32 x))) u)
      ∧ u.params.read w = x ∧ (∀ w', w' ≠ w → u.params.read w' = t.params.read w')
      ∧ u.monitor.a = (if w = .burstThresholdA ∧ x < t.monitor.a.burst then
          { t.monitor.a with burst := x.toNat } else t.monitor.a)
      ∧ u.monitor.b = (if w = .burstThresholdB ∧ x < t.monitor.b.burst then
          { t.monitor.b with burst := x.toNat } else t.monitor.b)
      ∧ u.selector = (if w = .mode then { t.selector with modeWrite := true } else t.selector)
      ∧ u.tae.attenuation =
          (if w = .atpc then if x = 0 then t.params.attMin else t.tae.attenuation
           else if w = .attMin then
            if t.params.atpc then max x.toNat (min t.params.attMax t.tae.attenuation) else x.toNat
           else if w = .attMax then max t.params.attMin (min x.toNat t.tae.attenuation)
           else t.tae.attenuation)
      ∧ u = { t with
          params := u.params
          monitor := u.monitor
          selector := u.selector
          tae := { t.tae with attenuation := u.tae.attenuation } }

/-! ### The Profile Ladder -/

/-- WRITE LADDER ENTRY: an index of 12 or more is refused; otherwise the whole entry, with capacity and thresholds
brought into range, replaces the named edit slot, and nothing else changes. -/
def Obligations.LadderEntriesAreWritten : Prop :=
  ∀ (i : Byte) (f : EntryFields) (s t : State), turn (.writeLadderEntry i f) s = some t →
    (12 ≤ i.toNat → exec (.writeLadderEntry i f) s = .next (respond (.refusedInvalid i.toNat .indexRange) t))
      ∧ (i.toNat < 12 → ∃ v e,
          e = (⟨f.enabled, f.modulation, f.codeClass, min 4000000 f.capacity.toNat, min 500 f.down.toNat,
              min 500 f.up.toNat, f.minDwell.toNat⟩ : Entry)
          ∧ exec (.writeLadderEntry i f) s
            = .next (respond (if f.capacity.toNat ≤ 4000000 ∧ f.down.toNat ≤ 500 ∧ f.up.toNat ≤ 500 then .ok []
                else .clamped e.bytes) v)
          ∧ v.ladder.edit.slot i.toNat = e
          ∧ (∀ j, j ≠ i.toNat → v.ladder.edit.slot j = t.ladder.edit.slot j)
          ∧ v.ladder.edit.count = t.ladder.edit.count
          ∧ v = { t with ladder := { t.ladder with edit := v.ladder.edit } })

/-- READ LADDER ENTRY answers with the slot, the copy's count, the below-count flag and the copy's digest; any other copy
selector is REFUSED_FORMAT, then an index of 12 or more is REFUSED_INVALID; it changes no state. SET LADDER COUNT
applies a count of 1 to 12 and leaves every slot; REVERT LADDER sets the edit copy equal to the active ladder, blank
beyond its count. Neither changes anything else. -/
def Obligations.LadderCopiesAreReadAndReverted : Prop :=
  (∀ (copy i : Byte) (s t : State), turn (.readLadderEntry copy i) s = some t →
    exec (.readLadderEntry copy i) s =
      .next (respond
        (if 1 < copy.toNat then .refusedFormat
         else if 12 ≤ i.toNat then .refusedInvalid i.toNat .indexRange
         else if copy = 0#8 then
           .ok ((t.ladder.active.slot i.toNat).bytes
             ++ [byteOf t.ladder.active.count, flagByte (decide (i.toNat < t.ladder.active.count))]
             ++ be16 t.ladder.digest)
         else
           .ok ((t.ladder.edit.slot i.toNat).bytes
             ++ [byteOf t.ladder.edit.count, flagByte (decide (i.toNat < t.ladder.edit.count))]
             ++ be16 (crc16 (byteOf t.ladder.edit.count
                 :: ((t.ladder.edit.slots.toList.take t.ladder.edit.count).flatMap Entry.bytes)))))
        t))
  ∧ ((∀ (n : Byte) (s t : State), turn (.setLadderCount n) s = some t →
    ∃ v, exec (.setLadderCount n) s
        = .next (respond (if 1 ≤ n.toNat ∧ n.toNat ≤ 12 then .ok [] else .clamped [byteOf v.ladder.edit.count]) v)
      ∧ v.ladder.edit.count = max 1 (min 12 n.toNat) ∧ v.ladder.edit.slots = t.ladder.edit.slots
      ∧ v = { t with ladder := { t.ladder with edit := v.ladder.edit } })
  ∧ (∀ s t : State, turn .revertLadder s = some t →
    ∃ v, exec .revertLadder s = .next (respond (.ok []) v)
      ∧ v.ladder.edit.count = t.ladder.active.count
      ∧ (∀ i, i < 12 → v.ladder.edit.slot i
          = if i < t.ladder.active.count then t.ladder.active.slot i else Entry.blank)
      ∧ v = { t with ladder := { t.ladder with edit := v.ladder.edit } }))

/-- Validation reports the first failing condition of the table of R14, at the lowest index at which it fails, and
nothing exactly when none fails. The refusal that reports it leaves both copies as they were. -/
def Obligations.ValidationReportsTheFirstFailure : Prop :=
  (∀ (s t : State) (p : Nat) (reason : InvalidReason), turn .commitLadder s = some t →
    commitRefusal t = some (.refusedInvalid p reason) →
    ∃ u, exec .commitLadder s = .next u ∧ u = respond (.refusedInvalid p reason) t ∧ u.ladder = s.ladder)
  ∧ ∀ l : Ladder,
    (l.failure = none ↔ ∀ order p, l.violates order p = false)
      ∧ ∀ p reason, l.failure = some (p, reason) ↔
          ∃ order, 1 ≤ order ∧ order ≤ 7 ∧ reason = violationReason order ∧ l.violates order p = true
            ∧ (∀ q, q < p → l.violates order q = false)
            ∧ ∀ earlier, earlier < order → ∀ q, l.violates earlier q = false

/-- COMMIT LADDER is refused by the first check of R12 that fails, and then only its response is made. -/
def Obligations.CommitLadderChecksInOrder : Prop :=
  ∀ s t : State, turn .commitLadder s = some t →
    ((t.link = .adaptive ∨ ∃ p, t.link = .pinned p) →
        exec .commitLadder s = .next (respond .refusedState t))
      ∧ (((t.link = .fixed ∨ ∃ w, t.link = .acquire w)
          ∧ ¬ ((∀ k, t.tae.state ≠ .committed k) ∧ t.rae.commit = none ∧ t.tae.c = 0 ∧ t.rae.e = 0)) →
        exec .commitLadder s = .next (respond .refusedInTransition t))
      ∧ ((t.link = .offline ∨ ((t.link = .fixed ∨ ∃ w, t.link = .acquire w)
          ∧ (∀ k, t.tae.state ≠ .committed k) ∧ t.rae.commit = none ∧ t.tae.c = 0 ∧ t.rae.e = 0)) →
        ∀ p reason, t.ladder.edit.failure = some (p, reason) →
        exec .commitLadder s = .next (respond (.refusedInvalid p reason) t))
      ∧ (((t.link = .fixed ∨ ∃ w, t.link = .acquire w)
          ∧ (∀ k, t.tae.state ≠ .committed k) ∧ t.rae.commit = none ∧ t.tae.c = 0 ∧ t.rae.e = 0) →
        t.ladder.edit.failure = none →
        ((t.ladder.edit.slot 0).modulation ≠ (t.ladder.active.slot 0).modulation
          ∨ (t.ladder.edit.slot 0).codeClass ≠ (t.ladder.active.slot 0).codeClass) →
        exec .commitLadder s = .next (respond .refusedReference t))

/-- COMMIT LADDER that passes its checks makes the edit copy active, blank beyond its count, with its digest, and the
Link Supervisor compares digests; in ACQUIRE and FIXED a changed capacity of entry 0 is published. That the comparison
comes before that publication is assumption 5. -/
def Obligations.CommitLadderReplacesTheActiveLadder : Prop :=
  ∀ s t : State, turn .commitLadder s = some t → t.ladder.edit.failure = none →
    (t.link = .offline
      ∨ ((t.link = .fixed ∨ ∃ w, t.link = .acquire w)
          ∧ (∀ k, t.tae.state ≠ .committed k) ∧ t.rae.commit = none ∧ t.tae.c = 0 ∧ t.rae.e = 0
          ∧ (t.ladder.edit.slot 0).modulation = (t.ladder.active.slot 0).modulation
          ∧ (t.ladder.edit.slot 0).codeClass = (t.ladder.active.slot 0).codeClass)) →
    ∃ v, exec .commitLadder s = .next (respond (.ok []) v)
      ∧ v.ladder.active.count = t.ladder.edit.count
      ∧ (∀ i, i < 12 → v.ladder.active.slot i
          = if i < t.ladder.edit.count then t.ladder.edit.slot i else Entry.blank)
      ∧ v.ladder.edit = t.ladder.edit
      ∧ v.ladder.digest = crc16 (byteOf t.ladder.edit.count
          :: ((t.ladder.edit.slots.toList.take t.ladder.edit.count).flatMap Entry.bytes))
      ∧ v.link = (match t.link with
          | .acquire _ =>
            if t.peer.state ≠ .up then t.link
            else if t.peer.fields.digest = some v.ladder.digest then .adaptive
            else .acquire .ladderMismatch
          | _ => t.link)
      ∧ v.control = t.control.afterRaising
          ((if v.link = t.link then 0#21 else Event.stateChanged.flag)
            ||| (if v.link ≠ t.link ∧ v.link = .acquire .ladderMismatch then Event.ladderMismatch.flag else 0#21))
      ∧ v.capacity.generation = t.capacity.generation
          + (if v.link = t.link then 0#16 else 1#16)
          + (if t.link ≠ .offline ∧ (t.ladder.edit.slot 0).capacity ≠ (t.ladder.active.slot 0).capacity then 1#16
             else 0#16)
      ∧ v = { t with
          ladder := v.ladder
          link := v.link
          capacity := v.capacity
          control := v.control }

/-! ### The Link Supervisor -/

/-- START: refused outside OFFLINE and with an empty active ladder; otherwise the link enters ACQUIRE with wait reason
STARTING, both engines start at profile 0, a Receive Order with start immediate goes to both Modem Links, and one
record is published. -/
def Obligations.StartEntersAcquire : Prop :=
  ∀ s t : State, turn .start s = some t →
    (t.link ≠ .offline → exec .start s = .next (respond .refusedState t))
      ∧ (t.link = .offline → t.ladder.active.count = 0 → exec .start s = .next (respond .refusedNoLadder t))
      ∧ (t.link = .offline → t.ladder.active.count ≠ 0 →
        ∃ v, exec .start s = .next (respond (.ok []) v)
          ∧ v.link = .acquire .starting
          ∧ v.rae = ⟨0, ⟨0, .none⟩, none, .hold, false, 0, 0, false, 0, false, 0, none, none, none, t.rae.counters⟩
          ∧ v.tae = ⟨0, .steady, none, false, t.params.attMin, 0, t.tae.counters⟩
          ∧ (∀ l, v.modem.get l =
              { t.modem.get l with
                waiting :=
                  if (t.modem.get l).up then
                    (t.modem.get l).waiting ++ [.receive ⟨none, 0, (t.ladder.active.slot 0).modulation,
                      (t.ladder.active.slot 0).codeClass⟩]
                  else (t.modem.get l).waiting })
          ∧ v.control = t.control.afterRaising Event.stateChanged.flag
          ∧ v.capacity.generation = t.capacity.generation + 1#16 ∧ v.RecordCurrent
          ∧ (v.capacity.buffer v.capacity.newest).link = 1
          ∧ (v.capacity.buffer v.capacity.newest).txCapacity = (t.ladder.active.slot 0).capacity
          ∧ v = { t with
              link := v.link
              rae := v.rae
              tae := v.tae
              modem := v.modem
              capacity := v.capacity
              control := v.control })

/-- STOP: nothing in OFFLINE; otherwise the link is OFFLINE, the Peer Channel is DOWN, both engines are at rest, and
the record published shows OFFLINE with both capacities 0 and nothing pending. -/
def Obligations.StopMutesTheLink : Prop :=
  ∀ s t : State, turn .stop s = some t →
    (t.link = .offline → exec .stop s = .next (respond (.ok []) t))
      ∧ (t.link ≠ .offline →
        ∃ v, exec .stop s = .next (respond (.ok []) v)
          ∧ v.link = .offline
          ∧ v.peer = (if t.peer.state = .down then t.peer else
              { t.peer with
                state := .down
                verify := 0
                mismatch := 0
                silence := 0
                lastFar := none
                fields := ⟨false, none, none, ⟨0, .none⟩, .hold, none, 0, none⟩ })
          ∧ v.rae = { t.rae with
              commit := none
              request := ⟨t.rae.e, .none⟩
              power := .hold
              deferred := false
              stall := 0
              stallReported := false
              predicted := none }
          ∧ v.tae = { t.tae with
              c := 0
              state := .steady
              fallbackOwed := false
              attenuation := if t.peer.state = .down then t.tae.attenuation else t.params.attMin }
          ∧ v.control = t.control.afterRaising
              (Event.stateChanged.flag ||| (if t.peer.state = .up then Event.peerDown.flag else 0#21))
          ∧ v.capacity.generation = t.capacity.generation + 1#16
          ∧ v.capacity.buffer v.capacity.newest = ⟨v.capacity.generation, 0, 0, 0, .none, t.rae.e, 0, .none⟩
          ∧ v = { t with
              link := v.link
              peer := v.peer
              rae := v.rae
              tae := v.tae
              capacity := v.capacity
              control := v.control })

/-- HOLD takes the link into FIXED, with a fallback from adaptive operation and none from ACQUIRE; RESUME takes it
from FIXED into ACQUIRE. The fallback sends the Capacity Alert of its commit; without one nothing is sent. Where the
state does not change, nothing does beyond the response. -/
def Obligations.HoldAndResumeMoveTheLink : Prop :=
  (∀ s t : State, turn .hold s = some t →
    (t.link = .offline → exec .hold s = .next (respond .refusedState t))
      ∧ (t.link = .fixed → exec .hold s = .next (respond (.ok []) t))
      ∧ (t.link ≠ .offline → t.link ≠ .fixed →
        ∃ v, exec .hold s = .next (respond (.ok []) v)
          ∧ v.link = .fixed
          ∧ v.tae = (if t.link.adapting then (fallback t).tae else t.tae)
          ∧ v.sent = (if t.link.adapting then (fallback t).sent else t.sent)
          ∧ v.capacity.alert = (if t.link.adapting then (fallback t).capacity.alert else t.capacity.alert)
          ∧ v.capacity.held = t.capacity.held ∧ v.capacity.framing = t.capacity.framing
          ∧ v.capacity.replies = t.capacity.replies
          ∧ v.capacity.generation =
              (if t.link.adapting then (fallback t).capacity.generation else t.capacity.generation) + 1#16
          ∧ v.RecordCurrent
          ∧ v.control = t.control.afterRaising Event.stateChanged.flag
          ∧ v = { t with
              link := v.link
              tae := v.tae
              capacity := v.capacity
              sent := v.sent
              control := v.control }))
  ∧ (∀ s t : State, turn .resume s = some t →
    (t.link ≠ .fixed → exec .resume s = .next (respond .refusedState t))
      ∧ (t.link = .fixed →
        ∃ v, exec .resume s = .next (respond (.ok []) v)
          ∧ v.link = .acquire .starting
          ∧ v.capacity.alert = t.capacity.alert
          ∧ v.capacity.generation = t.capacity.generation + 1#16 ∧ v.RecordCurrent
          ∧ v.control = t.control.afterRaising Event.stateChanged.flag
          ∧ v = { t with
              link := v.link
              capacity := v.capacity
              control := v.control }))

/-- PIN fixes the incoming direction at an enabled active entry in ADAPTIVE and PINNED, and UNPIN releases it; no
engine is touched, and no alert is sent. UNPIN notes, in the model's field `unpinned`, that the next evaluation starts
from the upshift dwell count 0 (assumption 18). A profile of 16 or more is a code outside its set. -/
def Obligations.PinAndUnpinMoveTheLink : Prop :=
  (∀ (p : Byte) (s t : State), turn (.pin p) s = some t →
    (16 ≤ p.toNat → exec (.pin p) s = .next (respond .refusedFormat t))
      ∧ (p.toNat < 16 → (t.link = .offline ∨ t.link = .fixed ∨ ∃ w, t.link = .acquire w) →
          exec (.pin p) s = .next (respond .refusedState t))
      ∧ (p.toNat < 16 → (t.link = .adaptive ∨ ∃ q, t.link = .pinned q) →
          ¬ (p.toNat < t.ladder.active.count ∧ (t.ladder.active.slot p.toNat).enabled = true) →
          exec (.pin p) s = .next (respond .refusedProfile t))
      ∧ (p.toNat < 16 → p.toNat < t.ladder.active.count → (t.ladder.active.slot p.toNat).enabled = true →
          t.link = .pinned p.toNat → exec (.pin p) s = .next (respond (.ok []) t))
      ∧ (p.toNat < 16 → p.toNat < t.ladder.active.count → (t.ladder.active.slot p.toNat).enabled = true →
          (t.link = .adaptive ∨ ∃ q, t.link = .pinned q ∧ q ≠ p.toNat) →
          ∃ v, exec (.pin p) s = .next (respond (.ok []) v)
            ∧ v.link = .pinned p.toNat
            ∧ v.capacity.alert = t.capacity.alert
            ∧ v.capacity.generation = t.capacity.generation + 1#16 ∧ v.RecordCurrent
            ∧ v.control = t.control.afterRaising Event.stateChanged.flag
            ∧ v = { t with
                link := v.link
                capacity := v.capacity
                control := v.control }))
  ∧ (∀ s t : State, turn .unpin s = some t →
    ((∀ q, t.link ≠ .pinned q) → exec .unpin s = .next (respond .refusedState t))
      ∧ (∀ q, t.link = .pinned q →
          ∃ v, exec .unpin s = .next (respond (.ok []) v)
            ∧ v.link = .adaptive
            ∧ v.capacity.alert = t.capacity.alert
            ∧ v.capacity.generation = t.capacity.generation + 1#16 ∧ v.RecordCurrent
            ∧ v.control = t.control.afterRaising Event.stateChanged.flag
            ∧ v = { t with
                link := v.link
                capacity := v.capacity
                control := v.control
                unpinned := true }))

/-- The notices to the Link Supervisor: the hand-off of an accepted word (R160), the DOWN notice (R161) and a burst
overflow notice (R163). Each names the link state that follows and whether a fallback is called for, which sends the
Capacity Alert of its commit; without one nothing is sent. Where the link state stays, nothing changes, and where it
moves, the newest record shows the move. -/
def Obligations.NoticesMoveTheLink : Prop :=
  ∀ s : State,
    (supervisorHandOff s).link =
        (if s.peer.state ≠ .up then s.link else
          match s.link with
          | .acquire _ =>
            if s.peer.fields.digest = some s.ladder.digest then .adaptive else .acquire .ladderMismatch
          | .adaptive =>
            if s.peer.fields.digest = some s.ladder.digest then .adaptive else .acquire .ladderMismatch
          | .pinned p =>
            if s.peer.fields.digest = some s.ladder.digest then .pinned p else .acquire .ladderMismatch
          | other => other)
      ∧ (supervisorHandOff s).tae =
          (if s.link.adapting ∧ (supervisorHandOff s).link = .acquire .ladderMismatch then (fallback s).tae
           else s.tae)
      ∧ (supervisorHandOff s).sent =
          (if s.link.adapting ∧ (supervisorHandOff s).link = .acquire .ladderMismatch then (fallback s).sent
           else s.sent)
      ∧ (supervisorHandOff s).capacity.alert =
          (if s.link.adapting ∧ (supervisorHandOff s).link = .acquire .ladderMismatch then
            (fallback s).capacity.alert
           else s.capacity.alert)
      ∧ (supervisorHandOff s).capacity.generation =
          (if s.link.adapting ∧ (supervisorHandOff s).link = .acquire .ladderMismatch then
            (fallback s).capacity.generation
           else s.capacity.generation)
          + (if (supervisorHandOff s).link = s.link then 0#16 else 1#16)
      ∧ (supervisorHandOff s).control = s.control.afterRaising
          ((if (supervisorHandOff s).link = s.link then 0#21 else Event.stateChanged.flag)
            ||| (if (supervisorHandOff s).link ≠ s.link ∧ (supervisorHandOff s).link = .acquire .ladderMismatch then
                  Event.ladderMismatch.flag else 0#21))
      ∧ (supervisorDown s).link =
          (match s.link with
           | .adaptive => .acquire .peerDown
           | .pinned _ => .acquire .peerDown
           | .acquire _ => .acquire .peerDown
           | other => other)
      ∧ (supervisorDown s).tae = (if s.link.adapting then (fallback s).tae else s.tae)
      ∧ (supervisorDown s).sent = (if s.link.adapting then (fallback s).sent else s.sent)
      ∧ (supervisorDown s).capacity.alert =
          (if s.link.adapting then (fallback s).capacity.alert else s.capacity.alert)
      ∧ (supervisorDown s).capacity.generation =
          (if s.link.adapting then (fallback s).capacity.generation else s.capacity.generation)
          + (if (supervisorDown s).link = s.link then 0#16 else 1#16)
      ∧ (supervisorDown s).control = s.control.afterRaising
          (if (supervisorDown s).link = s.link then 0#21 else Event.stateChanged.flag)
      ∧ (supervisorOverflow s).link = (match s.link with
           | .pinned _ => .adaptive
           | other => other)
      ∧ (supervisorOverflow s).tae = s.tae
      ∧ (supervisorOverflow s).sent = s.sent ∧ (supervisorOverflow s).capacity.alert = s.capacity.alert
      ∧ (supervisorOverflow s).capacity.generation = s.capacity.generation
          + (if (supervisorOverflow s).link = s.link then 0#16 else 1#16)
      ∧ (supervisorOverflow s).control = s.control.afterRaising
          (if (supervisorOverflow s).link = s.link then 0#21
           else Event.stateChanged.flag ||| Event.pinFault.flag)
      ∧ ∀ t : State, (t = supervisorHandOff s ∨ t = supervisorDown s ∨ t = supervisorOverflow s) →
          (t.link = s.link → t = s)
          ∧ (t.link ≠ s.link → t.RecordCurrent)
          ∧ t.capacity.held = s.capacity.held ∧ t.capacity.framing = s.capacity.framing
          ∧ t.capacity.replies = s.capacity.replies
          ∧ t = { s with
              link := t.link
              tae := t.tae
              capacity := t.capacity
              sent := t.sent
              control := t.control }

/-- EXCLUDE BRANCH and INCLUDE BRANCH set the named branch's exclusion and nothing else; any other branch code is
REFUSED_FORMAT. -/
def Obligations.BranchesAreExcludedAndIncluded : Prop :=
  ∀ (code : Byte) (s t : State),
    (turn (.excludeBranch code) s = some t →
      exec (.excludeBranch code) s = .next
        (if code = 0#8 then respond (.ok [])
            { t with selector := { t.selector with excluded := ⟨true, t.selector.excluded.b⟩ } }
         else if code = 1#8 then respond (.ok [])
            { t with selector := { t.selector with excluded := ⟨t.selector.excluded.a, true⟩ } }
         else respond .refusedFormat t))
    ∧ (turn (.includeBranch code) s = some t →
      exec (.includeBranch code) s = .next
        (if code = 0#8 then respond (.ok [])
            { t with selector := { t.selector with excluded := ⟨false, t.selector.excluded.b⟩ } }
         else if code = 1#8 then respond (.ok [])
            { t with selector := { t.selector with excluded := ⟨t.selector.excluded.a, false⟩ } }
         else respond .refusedFormat t))

/-! ### Resets and the input store -/

/-- SOFT RESET is answered OK at once and takes effect when that answer has left: a capacity read in flight is closed with
ABORTED after the record bytes already sent, every block returns to its reset state, and the active ladder, the
parameters, the event mask and the framings are kept. POWER_ON_RESET puts every block in its state after power-on. That
SOFT_RESET_TAKES_EFFECT changes nothing with no such response being sent is assumption 3, and that the number of record
bytes already sent comes with the command is assumption 7. That an answer is logged when SOFT RESET is taken, and that the queue and the log of what has left are kept, is assumption 6;
that messages waiting on the Modem Links survive a soft reset is assumption 9. -/
def Obligations.ResetsRestoreTheResetState : Prop :=
  ((∀ s t : State, turn .softReset s = some t →
    exec .softReset s = .next
      { t with
        sent := { t.sent with control := t.sent.control ++ [(Response.ok []).frame] }
        control := { t.control with resetPending := true } })
  ∧ (∀ (n : Fin 30) (s : State), s.control.resetPending = false →
    exec (.softResetTakesEffect n) s = .next s)
  ∧ (∀ (n : Fin 30) (s : State), s.control.resetPending = true →
    ∃ u, exec (.softResetTakesEffect n) s = .next u
      ∧ u.ladder.active = s.ladder.active ∧ u.ladder.digest = s.ladder.digest
      ∧ u.ladder.edit.count = s.ladder.active.count
      ∧ (∀ i, i < 12 → u.ladder.edit.slot i
          = if i < s.ladder.active.count then s.ladder.active.slot i else Entry.blank)
      ∧ u.monitor = State.reset.monitor ∧ u.fade = State.reset.fade ∧ u.selector = State.reset.selector
      ∧ u.peer = State.reset.peer ∧ u.rae = State.reset.rae
      ∧ u.tae = { State.reset.tae with
          attenuation := if s.params.atpc then s.params.attMax else s.params.attMin }
      ∧ u.capacity = { State.reset.capacity with framing := s.capacity.framing }
      ∧ u.link = .offline
      ∧ u.control.events = Event.restarted.flag ∧ u.control.mask = s.control.mask
      ∧ u.control.reported = none ∧ u.control.frames = [] ∧ u.control.incomplete = []
      ∧ u.control.lost = none ∧ u.control.frameStrobes = 0
      ∧ u.control.resetPending = false ∧ u.control.attention = !s.control.mask.has .restarted
      ∧ u.params = s.params ∧ u.modem = s.modem ∧ u.unpinned = false
      ∧ u.sent = { s.sent with
          capacity :=
            match s.capacity.held with
            | none => s.sent.capacity
            | some b => s.sent.capacity
                ++ [sealMessage 0x31#8 ((s.capacity.buffer b).bytes.take n.val ++ [1#8])] }))
  ∧ (∀ s : State, exec .powerOnReset s = .next { State.reset with sent := s.sent, pending := s.pending })

/-- A byte joins the frame being received, is held with it in a store of 512 bytes, restarts its strobe count, and
completes it when it is the last one that the length byte announces. A byte that finds the store full is discarded, yet
counts toward its frame's end: from the first byte lost the frame's arrival is followed by `lost` (the length byte comes
next, or so many bytes are still to come), and at its end the frame is answered REFUSED_FORMAT, at once when no frame
waits before it and in its turn otherwise. That a discarded length byte still announces, and that the failed frame is
answered without a row of its own, are assumptions 15 and 10. -/
def Obligations.BytesFormFrames : Prop :=
  ∀ (b : Byte) (s : State),
    (s.control.lost = none → s.control.stored < 512 →
      (frameComplete (s.control.incomplete ++ [b]) = true →
        exec (.controlLinkByteArrival b) s = .next { s with control :=
          { s.control with
            frames := s.control.frames ++ [.complete (s.control.incomplete ++ [b])]
            incomplete := []
            frameStrobes := 0 } })
      ∧ (frameComplete (s.control.incomplete ++ [b]) = false →
        exec (.controlLinkByteArrival b) s = .next { s with control :=
          { s.control with incomplete := s.control.incomplete ++ [b], frameStrobes := 0 } }))
    ∧ (∀ (held : List Byte) (x : Extent), (s.control.lost ≠ none ∨ 512 ≤ s.control.stored) →
      held = (if 512 ≤ s.control.stored then s.control.incomplete else s.control.incomplete ++ [b]) →
      x = (match s.control.lost, s.control.incomplete with
        | some .lengthNext, _ => .remaining (b.toNat + 2)
        | some (.remaining n), _ => .remaining (n - 1)
        | none, [] => .lengthNext
        | none, [_] => .remaining (b.toNat + 2)
        | none, _ :: len :: rest => .remaining (len.toNat + 2 - rest.length - 1)) →
      (x ≠ .remaining 0 →
        exec (.controlLinkByteArrival b) s = .next { s with control :=
          { s.control with incomplete := held, lost := some x, frameStrobes := 0 } })
      ∧ (x = .remaining 0 → s.control.frames = [] → s.control.resetPending = false →
        exec (.controlLinkByteArrival b) s = .next { s with
          control := { s.control with incomplete := [], lost := none, frameStrobes := 0 }
          sent := { s.sent with control := s.sent.control ++ [Response.refusedFormat.frame] } })
      ∧ (x = .remaining 0 → (s.control.frames ≠ [] ∨ s.control.resetPending = true) →
        exec (.controlLinkByteArrival b) s = .next { s with control :=
          { s.control with
            frames := s.control.frames ++ [.failed held]
            incomplete := []
            lost := none
            frameStrobes := 0 } }))

/-- A strobe counts for an incomplete frame, one of which a byte has arrived, held or lost; the eighth since its last
byte discards it and answers REFUSED_FORMAT, at once when no frame waits before it and in its turn otherwise. That it is
answered in its turn behind other frames, or left to a SOFT RESET whose response is being sent, is assumption 10.
FRAME_TIMEOUT is that strobe (assumption 2). -/
def Obligations.IncompleteFramesTimeOut : Prop :=
  ∀ (s : State) (begun : Prop), (begun ↔ s.control.incomplete ≠ [] ∨ s.control.lost ≠ none) →
    (¬ begun → exec .frameStrobeCount s = .next s ∧ exec .frameTimeout s = .next s)
      ∧ (begun → s.control.frameStrobes + 1 < 8 →
        exec .frameStrobeCount s
            = .next { s with control := { s.control with frameStrobes := s.control.frameStrobes + 1 } }
          ∧ exec .frameTimeout s = .next s)
      ∧ (begun → 8 ≤ s.control.frameStrobes + 1 →
          s.control.frames = [] → s.control.resetPending = false →
        exec .frameTimeout s = .next { s with
            control := { s.control with incomplete := [], lost := none, frameStrobes := 0 }
            sent := { s.sent with control := s.sent.control ++ [Response.refusedFormat.frame] } }
          ∧ exec .frameStrobeCount s = exec .frameTimeout s)
      ∧ (begun → 8 ≤ s.control.frameStrobes + 1 →
          (s.control.frames ≠ [] ∨ s.control.resetPending = true) →
        exec .frameTimeout s = .next { s with control :=
            { s.control with
              frames := s.control.frames ++ [.failed []]
              incomplete := []
              lost := none
              frameStrobes := 0 } }
          ∧ exec .frameStrobeCount s = exec .frameTimeout s)

/-! ### The Modem Links and the report age -/

/-- Framing lost on a Modem Link that is UP discards what waits on it and makes its branch ABSENT; framing gained
keeps the branch as it stands; a message that has left makes room for the next. The other link and branch are
untouched. Framing lost on a link that is DOWN, and a message sent with none waiting, change nothing (assumption 3).
REPORT_AGE_COUNT: a strobe adds one to the report age of both branches, which stays at 255 there. That one step ages
both monitors is assumption 1. -/
def Obligations.ModemLinksAndReportAges : Prop :=
  (∀ (l : Branch) (s : State),
    ((s.modem.get l).up = true →
      exec (.modemLinkDown l) s = .next (raise .branchLost
        { s with
          modem := s.modem.set l ⟨false, []⟩
          monitor := s.monitor.set l
            { s.monitor.get l with
              status := .absent
              ring := []
              primed := false
              rsl := none
              age := 255
              counters :=
                { (s.monitor.get l).counters with
                  linkLosses := (s.monitor.get l).counters.linkLosses + 1#32 } } }))
      ∧ ((s.modem.get l).up = false → exec (.modemLinkDown l) s = .next s)
      ∧ exec (.modemLinkUp l) s = .next { s with modem := s.modem.set l { s.modem.get l with up := true } }
      ∧ ((s.modem.get l).waiting = [] → exec (.modemMessageSent l) s = .next s)
      ∧ (∀ m rest, (s.modem.get l).waiting = m :: rest →
          exec (.modemMessageSent l) s = .next
            { s with
              modem := s.modem.set l { s.modem.get l with waiting := rest }
              sent := { s.sent with modem := s.sent.modem.set l (s.sent.modem.get l ++ [m.bytes]) } }))
  ∧ (∀ s : State, exec .reportAgeCount s = .next
    { s with monitor :=
      ⟨{ s.monitor.a with age := if s.monitor.a.age < 255 then s.monitor.a.age + 1 else 255 },
        { s.monitor.b with age := if s.monitor.b.age < 255 then s.monitor.b.age + 1 else 255 }⟩ })

/-! ### Branch Reports -/

/-- A Branch Report is handled in the order of R23: the monitor's own work, then the Fade Classifier with the lock state
and the *F* just produced, then the Peer Channel with the word of a valid header, then the RAE with the header. The
monitor of its branch is left with the status, age, RSL, filter, ring and counters of R24 to R30 and R35; of the other
monitor only the burst error counter may change, to 0. A message that fails the frame check changes nothing,
and neither does one for a link that is DOWN, from which none arrives by R19 (assumption 3). -/
def Obligations.ReportsAreMeasuredAndHandedOn : Prop :=
  (∀ (l : Branch) (m : List Byte) (s : State),
    (((s.modem.get l).up = false ∨ receiveReport m = none) → exec (.branchReport l m) s = .next s)
      ∧ (∀ r, (s.modem.get l).up = true → receiveReport m = some r →
        ∃ s1 s2 s3 s4, s1 = monitorReport l r s
          ∧ s2 = fadeReport l (if r.locked then (s1.monitor.get l).snr else none) s1
          ∧ s3 = (match r.locked, r.header, r.word with
              | true, some h, some w => checkWord h.number w s2
              | _, _, _ => s2)
          ∧ s4 = (match r.locked, r.header with
              | true, some h => raeHeader l h s3
              | _, _ => s3)
          ∧ exec (.branchReport l m) s = .next s4
          ∧ s4.ladder = s.ladder ∧ s4.params = s.params ∧ s4.selector = s.selector
          ∧ s1 = { s with
              monitor := s.monitor.set l (s1.monitor.get l)
              rae := { s.rae with overflowNoted := s1.rae.overflowNoted }
              link := s1.link
              capacity := s1.capacity
              control :=
                { s.control with
                  events := s1.control.events
                  attention := s1.control.attention
                  reported := s1.control.reported } }
          ∧ s2 = { s1 with
              monitor := s1.monitor.set l
                { s1.monitor.get l with counters :=
                  { (s1.monitor.get l).counters with
                    fades := (s2.monitor.get l).counters.fades
                    longFades := (s2.monitor.get l).counters.longFades } }
              fade := s.fade.set l (s2.fade.get l)
              control :=
                { s1.control with
                  events := s2.control.events
                  attention := s2.control.attention
                  reported := s2.control.reported } }))
  ∧ (∀ (l : Branch) (m : List Byte) (s : State) (r : Report), (s.modem.get l).up = true → receiveReport m = some r →
    ∃ t f, exec (.branchReport l m) s = .next t
      ∧ f = (match (s.monitor.get l).primed, (s.monitor.get l).filter with
          | true, some f0 =>
            if s.params.smoothingShift = 0 then 64 * min 500 r.rawSnr
            else ((f0 : Int) + ((64 * (min 500 r.rawSnr : Nat) : Int) - f0 + 2 ^ (s.params.smoothingShift - 1))
                    / 2 ^ s.params.smoothingShift).toNat
          | _, _ => 64 * min 500 r.rawSnr)
      ∧ (t.monitor.get l).status = (if r.locked then .locked else .unlocked)
      ∧ (t.monitor.get l).age = 0
      ∧ (t.monitor.get l).rsl = some (max (-1000) (min (-150) r.rsl))
      ∧ (t.monitor.get l).primed = r.locked
      ∧ (t.monitor.get l).filter = (if r.locked then some f else (s.monitor.get l).filter)
      ∧ (t.monitor.get l).ring =
          (if r.locked then
            ((s.monitor.get l).ring ++ [(f + 32) / 64]).drop ((s.monitor.get l).ring.length + 1 - 16)
           else [])
      ∧ (t.monitor.get l).counters.lockedReports
          = (s.monitor.get l).counters.lockedReports + (if r.locked then 1#32 else 0#32)
      ∧ (t.monitor.get l).counters.unlockedReports
          = (s.monitor.get l).counters.unlockedReports + (if r.locked then 0#32 else 1#32)
      ∧ (t.monitor.get l).counters.erroredSuperframes
          = (s.monitor.get l).counters.erroredSuperframes
            + (if r.locked = true ∧ 0 < r.errored then 1#32 else 0#32)
      ∧ (t.monitor.get l).counters.lockLosses
          = (s.monitor.get l).counters.lockLosses
            + (if r.locked = false ∧ (s.monitor.get l).status = .locked then 1#32 else 0#32)
      ∧ (t.monitor.get l).counters.linkLosses = (s.monitor.get l).counters.linkLosses
      ∧ (r.locked = false → (s.monitor.get l).status = .locked → t.control.events.has .branchLost = true)
      ∧ (∀ k, k ≠ l → t.monitor.get k = s.monitor.get k
          ∨ t.monitor.get k = { s.monitor.get k with burst := 0 }))

/-- The slope of a branch by R29, read from the ring and the slope span. -/
def Obligations.TheSlopeIsReadFromTheRing : Prop :=
  ∀ (m : Monitor) (span : Nat), 1 ≤ span →
    (m.ring.length ≤ span → m.slope span = 0)
      ∧ (∀ (older newer : List Nat) (ago now : Nat), m.ring = older ++ ago :: (newer ++ [now]) → newer.length + 1 = span →
          m.slope span = max (-500) (min 500 (Int.floor ((10 * ((now : ℚ) - (ago : ℚ))) / (span : ℚ)))))

/-- The burst error counter moves by the class of the report against the profile expected for its superframe, and an
errored report with the counter at the threshold is a burst overflow, with its counter, its event and its notice; a
branch that is not in service sends no notice, so that overflow noted and the link state stay as the notice found
them. A notice is dropped by the RAE in OFFLINE, where overflow noted is kept, and changes the link state in PINNED
alone. The monitor's own part of the report raises those events and no others. BURST_OVERFLOW is the report on which
that happens (assumption 2). That the class compares plainly with *e* in OFFLINE, also where *e* names no enabled
entry, is assumption 20. -/
def Obligations.BurstsOverflow : Prop :=
  ∀ (l : Branch) (m : List Byte) (s : State) (r : Report) (passive errored overflow : Bool),
    (s.modem.get l).up = true → receiveReport m = some r →
    passive = (match r.locked, r.header with
      | true, some h => decide (h.profile ≠ (match s.rae.commit with
          | some k => if (h.number - k.switch).toNat < 32768 then k.profile else s.rae.e
          | none => s.rae.e))
      | _, _ => false) →
    errored = (!passive && (!r.locked || decide (0 < r.errored))) →
    overflow = (errored && decide (s.params.burstThreshold.get l ≤ (s.monitor.get l).burst)) →
    ((monitorReport l r s).monitor.get l).burst =
        (if passive then (s.monitor.get l).burst else if overflow then 0
         else if errored then (s.monitor.get l).burst + 1 else (s.monitor.get l).burst - 1)
      ∧ (overflow = false → exec (.burstOverflow l m) s = .next s
          ∧ (monitorReport l r s).rae = s.rae ∧ (monitorReport l r s).link = s.link
          ∧ (monitorReport l r s).capacity = s.capacity)
      ∧ (∀ service : Bool,
          (service = true ↔ s.selector.excluded.get l = false
            ∧ (s.params.mode = .combine ∨ s.params.mode = .select
              ∨ s.params.mode = (match l with
                  | .a => .singleA
                  | .b => .singleB))) →
          (monitorReport l r s).control = s.control.afterRaising
              ((if r.locked = false ∧ (s.monitor.get l).status = .locked then Event.branchLost.flag else 0#21)
                ||| (if overflow then (match l with
                      | .a => Event.burstOverflowA.flag
                      | .b => Event.burstOverflowB.flag) else 0#21)
                ||| (if overflow = true ∧ service = true ∧ s.link.pin?.isSome = true then
                      Event.stateChanged.flag ||| Event.pinFault.flag else 0#21))
          ∧ (overflow = true → service = true →
              (monitorReport l r s).rae =
                  (if s.link = .offline then s.rae else { s.rae with overflowNoted := true })
              ∧ (monitorReport l r s).link = (match s.link with
                  | .pinned _ => .adaptive
                  | other => other)
              ∧ ((∀ p, s.link ≠ .pinned p) → (monitorReport l r s).capacity = s.capacity)
              ∧ ((∃ p, s.link = .pinned p) →
                  (monitorReport l r s).capacity.generation = s.capacity.generation + 1#16
                    ∧ (monitorReport l r s).RecordCurrent
                    ∧ (monitorReport l r s).capacity.alert = s.capacity.alert)))
      ∧ (overflow = true → ∃ t, exec (.burstOverflow l m) s = .next t ∧ exec (.branchReport l m) s = .next t
          ∧ (t.monitor.get l).burst = 0
          ∧ (t.monitor.get l).counters.burstOverflows = (s.monitor.get l).counters.burstOverflows + 1#32
          ∧ t.control.events.has (match l with
              | .a => .burstOverflowA
              | .b => .burstOverflowB) = true
          ∧ (s.selector.excluded.get l = false →
              (s.params.mode = .combine ∨ s.params.mode = .select
                ∨ s.params.mode = (match l with
                    | .a => .singleA
                    | .b => .singleB)) →
              (s.link ≠ .offline → t.rae.overflowNoted = true)
                ∧ (s.link = .offline → t.rae.overflowNoted = s.rae.overflowNoted ∧ t.link = .offline)
                ∧ ((∃ p, s.link = .pinned p) → t.control.events.has .pinFault = true
                    ∧ (monitorReport l r s).link = .adaptive))
          ∧ ((s.selector.excluded.get l = true
              ∨ s.params.mode = (match l with
                  | .a => .singleB
                  | .b => .singleA)) →
              (monitorReport l r s).rae = s.rae ∧ (monitorReport l r s).link = s.link
                ∧ (monitorReport l r s).capacity = s.capacity ∧ t.rae.overflowNoted = s.rae.overflowNoted))

/-- The Fade Classifier of the report's branch by R41 to R44: the fade state, both timers, both flags and both branch
counters, from the lock flag and the *F* of this report; the other classifier is untouched. LONG_FADE of the branch,
FAST_FADING_ON and FAST_FADING_OFF are raised exactly where R43 and R44 raise them, and not otherwise. LONG_FADE and
FAST_FADING_OFF are the reports on which the duration timer and the recurrence timer reach 0 (assumption 2). -/
def Obligations.FadesAreClassified : Prop :=
  ∀ (l : Branch) (m : List Byte) (s : State) (r : Report) (f : FadeClassifier) (snr : Nat) (onset ended : Bool),
    (s.modem.get l).up = true → receiveReport m = some r → f = s.fade.get l →
    snr = ((s.monitor.get l).filterAfter s.params.smoothingShift (min 500 r.rawSnr) + 32) / 64 →
    onset = (!f.faded && (!r.locked || decide (snr < s.params.fadeThreshold.get l))) →
    ended = (f.faded && r.locked && decide (s.params.fadeThreshold.get l + s.params.fadeHysteresis ≤ snr)) →
    ∃ t, exec (.branchReport l m) s = .next t
      ∧ (t.fade.get l).faded = (onset || (f.faded && !ended))
      ∧ (t.fade.get l).duration =
          (if onset then some s.params.durationLimit else if ended then none
           else if f.faded then f.duration.bind (fun n => if n ≤ 1 then none else some (n - 1)) else f.duration)
      ∧ (t.fade.get l).longFade =
          (!ended && (f.longFade || (f.faded && decide (f.duration = some 1))))
      ∧ (t.fade.get l).recurrence =
          (if onset then some s.params.recurrenceLimit
           else f.recurrence.bind (fun n => if n ≤ 1 then none else some (n - 1)))
      ∧ (t.fade.get l).fastFading =
          (if onset then f.fastFading || f.recurrence.isSome
           else f.fastFading && decide (f.recurrence ≠ some 1))
      ∧ (t.monitor.get l).counters.fades
          = (s.monitor.get l).counters.fades + (if onset then 1#32 else 0#32)
      ∧ (t.monitor.get l).counters.longFades = (s.monitor.get l).counters.longFades
          + (if f.faded = true ∧ ended = false ∧ f.duration = some 1 then 1#32 else 0#32)
      ∧ (∀ k, k ≠ l → t.fade.get k = s.fade.get k)
      ∧ t.control.events.has .fastFadingOn
          = (s.control.events.has .fastFadingOn || (onset && f.recurrence.isSome && !f.fastFading))
      ∧ exec (.longFade l m) s =
          .next (if f.faded = true ∧ ended = false ∧ f.duration = some 1 then t else s)
      ∧ t.control.events.has (match l with
            | .a => .longFadeA
            | .b => .longFadeB)
          = (s.control.events.has (match l with
              | .a => .longFadeA
              | .b => .longFadeB) || (f.faded && !ended && decide (f.duration = some 1)))
      ∧ t.control.events.has (match l with
            | .a => .longFadeB
            | .b => .longFadeA)
          = s.control.events.has (match l with
              | .a => .longFadeB
              | .b => .longFadeA)
      ∧ exec (.fastFadingOff l m) s = .next (if onset = false ∧ f.recurrence = some 1 then t else s)
      ∧ t.control.events.has .fastFadingOff
          = (s.control.events.has .fastFadingOff || (!onset && decide (f.recurrence = some 1) && f.fastFading))
      ∧ (∀ s1, s1 = monitorReport l r s →
          (fadeReport l (if r.locked then (s1.monitor.get l).snr else none) s1).control = s1.control.afterRaising
            ((if f.faded = true ∧ ended = false ∧ f.duration = some 1 then (match l with
                | .a => Event.longFadeA.flag
                | .b => Event.longFadeB.flag) else 0#21)
              ||| (if onset = true ∧ f.recurrence.isSome = true ∧ f.fastFading = false then
                    Event.fastFadingOn.flag else 0#21)
              ||| (if onset = false ∧ f.recurrence = some 1 ∧ f.fastFading = true then
                    Event.fastFadingOff.flag else 0#21)))

/-! ### The Peer Channel -/

/-- The stages of an arriving word by R70 to R73 and R80: a bad CRC, a foreign hop id, a word that is not after *L*, an
accepted word; a word that fails changes only what its stage names. That a word whose *m* lies exactly 32768 from *L*
is a duplicate, where R73 names no outcome, is assumption 16. FOREIGN_SIGNAL is the report whose word fails the
identity check and takes the foreign counter to the threshold (assumption 2). -/
def Obligations.WordsPassTheirChecks : Prop :=
  (∀ (m : Superframe) (bytes : List Byte) (w : OverheadWord) (s : State), OverheadWord.parse bytes = some w →
    (bytes.drop 12 ≠ be16 (crc16 (bytes.take 12)) →
      checkWord m bytes s = { s with peer :=
        { s.peer with counters := { s.peer.counters with badCrc := s.peer.counters.badCrc + 1#32 } } })
    ∧ (bytes.drop 12 = be16 (crc16 (bytes.take 12)) →
      ((∃ i, i < 20 ∧ s.params.hopMask.getLsbD i = true ∧ w.hopId.getLsbD i ≠ s.params.peerHop.getLsbD i) →
        (s.peer.foreign + 1 < s.params.foreignThreshold →
          checkWord m bytes s = { s with peer :=
            { s.peer with
              foreign := s.peer.foreign + 1
              counters := { s.peer.counters with foreignWords := s.peer.counters.foreignWords + 1#32 } } })
        ∧ (s.params.foreignThreshold ≤ s.peer.foreign + 1 →
          checkWord m bytes s = raise .foreignSignal { s with peer :=
            { s.peer with
              foreign := 0
              counters := { s.peer.counters with foreignWords := s.peer.counters.foreignWords + 1#32 } } }))
      ∧ ((∀ i, i < 20 → s.params.hopMask.getLsbD i = true → w.hopId.getLsbD i = s.params.peerHop.getLsbD i) →
        (s.link = .offline →
          checkWord m bytes s = { s with peer := { s.peer with foreign := s.peer.foreign - 1 } })
        ∧ (s.link ≠ .offline → (∃ k, s.peer.lastFar = some k ∧ (32768 ≤ (m - k).toNat ∨ m = k)) →
          checkWord m bytes s = { s with peer :=
            { s.peer with
              foreign := s.peer.foreign - 1
              counters := { s.peer.counters with duplicates := s.peer.counters.duplicates + 1#32 } } })
        ∧ (s.link ≠ .offline → (∀ k, s.peer.lastFar = some k → (m - k).toNat < 32768 ∧ m ≠ k) →
          checkWord m bytes s = acceptWord m w { s with peer := { s.peer with foreign := s.peer.foreign - 1 } }))))
  ∧ (∀ (l : Branch) (msg word : List Byte) (s : State) (r : Report) (h : Header) (w : OverheadWord),
    (s.modem.get l).up = true → receiveReport msg = some r → r.locked = true → r.header = some h →
    r.word = some word → word.drop 12 = be16 (crc16 (word.take 12)) → OverheadWord.parse word = some w →
    (w.hopId &&& s.params.hopMask ≠ s.params.peerHop &&& s.params.hopMask →
      s.params.foreignThreshold ≤ s.peer.foreign + 1 →
      ∃ t, exec (.foreignSignal l msg) s = .next t ∧ exec (.branchReport l msg) s = .next t
        ∧ t.peer = { s.peer with
            foreign := 0
            counters := { s.peer.counters with foreignWords := s.peer.counters.foreignWords + 1#32 } }
        ∧ t.control.events.has .foreignSignal = true
        ∧ (∀ x, t.control.reported = some x → x.has .foreignSignal = false))
    ∧ ((w.hopId &&& s.params.hopMask = s.params.peerHop &&& s.params.hopMask
          ∨ s.peer.foreign + 1 < s.params.foreignThreshold) →
      exec (.foreignSignal l msg) s = .next s))

/-- An accepted word that is no echo fault: *L*, the peer fields, the silence counter and the acceptance count by
R73, the echo mismatch counter by R74, the verify count and the channel state by R75. -/
def Obligations.AcceptedWordsVerifyTheEcho : Prop :=
  ∀ (m : Superframe) (w : OverheadWord) (s : State) (hit miss : Bool) (n : Nat),
    hit = (match w.echo with
      | some x => decide (x ∈ s.peer.ring)
      | none => false) →
    miss = (match w.echo with
      | some x => decide (x ∉ s.peer.ring)
      | none => false) →
    n = (if s.peer.state = .down then 0 else s.peer.verify) →
    ¬ (s.peer.state = .up ∧ miss = true ∧ 2 ≤ s.peer.mismatch) →
    (acceptWord m w s).peer =
      { s.peer with
        lastFar := some m
        fields := ⟨w.adapt, some w.challenge, w.commit, w.request, w.power, some w.txProfile, w.headroom,
          some w.digest⟩
        silence := 0
        mismatch := if hit then s.peer.mismatch - 1
          else if miss then (if s.peer.mismatch < 3 then s.peer.mismatch + 1 else 3) else s.peer.mismatch
        verify := if s.peer.state = .up then s.peer.verify
          else if hit then n + 1 else if miss then 0 else n
        state := if s.peer.state = .up ∨ (hit = true ∧ 8 ≤ n + 1) then .up else .verifying
        counters :=
          { s.peer.counters with
            wordsAccepted := s.peer.counters.wordsAccepted + 1#32
            echoMismatches := s.peer.counters.echoMismatches + (if miss then 1#32 else 0#32) } }
      ∧ (s.peer.state ≠ .up → hit = true → 8 ≤ n + 1 → (acceptWord m w s).control.events.has .peerUp = true)

/-- PEER_UP is the report whose word makes the eighth match: the channel goes UP, and the Link Supervisor finds it UP
within the same word. ECHO_FAULT is the report whose word is the third mismatch in UP: the channel enters DOWN with
its fields cleared and *L* unset, PEER_DOWN is raised with ECHO_FAULT, adaptive operation ends with the fallback of
the DOWN notice and its alert, and the attenuation goes to att min. Both rows are the report itself (assumption 2). -/
def Obligations.EchoesMoveTheChannel : Prop :=
  (∀ (l : Branch) (msg word : List Byte) (s : State) (r : Report) (h : Header) (w : OverheadWord) (x : Byte),
    (s.modem.get l).up = true → receiveReport msg = some r → r.locked = true → r.header = some h →
    r.word = some word → word.drop 12 = be16 (crc16 (word.take 12)) → OverheadWord.parse word = some w →
    w.hopId &&& s.params.hopMask = s.params.peerHop &&& s.params.hopMask → s.link ≠ .offline →
    (∀ k, s.peer.lastFar = some k → (h.number - k).toNat < 32768 ∧ h.number ≠ k) →
    s.peer.state = .verifying → s.peer.verify = 7 → w.echo = some x → x ∈ s.peer.ring →
    ∃ t, exec (.peerUp l msg) s = .next t ∧ exec (.branchReport l msg) s = .next t
      ∧ t.peer.state = .up ∧ t.peer.verify = 8 ∧ t.peer.lastFar = some h.number
      ∧ t.peer.fields.digest = some w.digest ∧ t.control.events.has .peerUp = true
      ∧ (∀ y, t.control.reported = some y → y.has .peerUp = false)
      ∧ (∀ reason, s.link = .acquire reason →
          t.link = (if w.digest = s.ladder.digest then .adaptive else .acquire .ladderMismatch)))
  ∧ (∀ (l : Branch) (msg word : List Byte) (s : State) (r : Report) (h : Header) (w : OverheadWord) (x : Byte),
    (s.modem.get l).up = true → receiveReport msg = some r → r.locked = true → r.header = some h →
    r.word = some word → word.drop 12 = be16 (crc16 (word.take 12)) → OverheadWord.parse word = some w →
    w.hopId &&& s.params.hopMask = s.params.peerHop &&& s.params.hopMask → s.link ≠ .offline →
    (∀ k, s.peer.lastFar = some k → (h.number - k).toNat < 32768 ∧ h.number ≠ k) →
    s.peer.state = .up → 2 ≤ s.peer.mismatch → w.echo = some x → x ∉ s.peer.ring →
    ∃ t, exec (.echoFault l msg) s = .next t ∧ exec (.branchReport l msg) s = .next t
      ∧ t.peer.state = .down ∧ t.peer.verify = 0 ∧ t.peer.mismatch = 0 ∧ t.peer.silence = 0
      ∧ t.peer.lastFar = none ∧ t.peer.fields = ⟨false, none, none, ⟨0, .none⟩, .hold, none, 0, none⟩
      ∧ t.peer.ring = s.peer.ring ∧ t.peer.nextChallenge = s.peer.nextChallenge
      ∧ t.control.events.has .echoFault = true ∧ t.control.events.has .peerDown = true
      ∧ (∀ y, t.control.reported = some y → y.has .echoFault = false ∧ y.has .peerDown = false)
      ∧ (∀ s1 s2, s1 = monitorReport l r s → s2 = fadeReport l (s1.monitor.get l).snr s1 →
          t.sent = (supervisorDown s2).sent
            ∧ t.capacity.alert = (supervisorDown s2).capacity.alert
            ∧ t.tae.state = (supervisorDown s2).tae.state)
      ∧ t.tae.attenuation = s.params.attMin
      ∧ (s.link.adapting = true → t.link = .acquire .peerDown))

/-- A strobe at the Peer Channel: nothing in DOWN; otherwise the silence counter counts, and at the peer timeout the
channel enters DOWN, with PEER_DOWN from UP, and adaptive operation ends with the fallback of the DOWN notice and its
alert. PEER_TIMEOUT is that strobe (assumption 2). -/
def Obligations.SilenceTakesThePeerDown : Prop :=
  ∀ s : State,
    (s.peer.state = .down → exec .silenceCount s = .next s ∧ exec .peerTimeout s = .next s)
      ∧ (s.peer.state ≠ .down → s.peer.silence + 1 < s.params.peerTimeout →
        exec .silenceCount s = .next { s with peer := { s.peer with silence := s.peer.silence + 1 } }
          ∧ exec .peerTimeout s = .next s)
      ∧ (s.peer.state ≠ .down → s.params.peerTimeout ≤ s.peer.silence + 1 →
        ∃ t, exec .peerTimeout s = .next t ∧ exec .silenceCount s = .next t
          ∧ t.peer =
            { s.peer with
              state := .down
              verify := 0
              mismatch := 0
              silence := 0
              lastFar := none
              fields := ⟨false, none, none, ⟨0, .none⟩, .hold, none, 0, none⟩ }
          ∧ t.link = (supervisorDown s).link
          ∧ t.tae = { (supervisorDown s).tae with attenuation := s.params.attMin }
          ∧ t.sent = (supervisorDown s).sent ∧ t.capacity = (supervisorDown s).capacity
          ∧ t.control = s.control.afterRaising
              ((if (supervisorDown s).link = s.link then 0#21 else Event.stateChanged.flag)
                ||| (if s.peer.state = .up then Event.peerDown.flag else 0#21))
          ∧ t = { s with
              peer := t.peer
              link := t.link
              tae := t.tae
              capacity := t.capacity
              sent := t.sent
              control := t.control })

/-! ### The Receive Adaptation Engine -/

/-- The hand-off of an accepted word by R78, and the commit that the RAE sees by R107 to R109: ignored and counted,
already held, discarding the pending one, or pending from now on, the last two with a Receive Order on both Modem
Links and a publication. -/
def Obligations.CommitsAreSeen : Prop :=
  (∀ (m : Superframe) (w : OverheadWord) (s : State),
    ¬ (s.peer.state = .up ∧ (∃ x, w.echo = some x ∧ x ∉ s.peer.ring) ∧ 2 ≤ s.peer.mismatch) →
    ∃ s1, s1 = { s with
        peer := (acceptWord m w s).peer
        control := s.control.afterRaising
          (if s.peer.state ≠ .up ∧ (acceptWord m w s).peer.state = .up then Event.peerUp.flag else 0#21) }
      ∧ acceptWord m w s
        = takeRequest w.request (takePower w.power (seeCommit w.commit (supervisorHandOff s1))))
  ∧ (∀ s : State, seeCommit none s = s)
  ∧ (∀ (p : Nat) (n : Superframe) (s : State),
    (¬ (p < s.ladder.active.count ∧ (s.ladder.active.slot p).enabled = true) →
      seeCommit (some ⟨p, n⟩) s = { s with rae :=
        { s.rae with counters := { s.rae.counters with ignoredCommits := s.rae.counters.ignoredCommits + 1#32 } } })
    ∧ (p < s.ladder.active.count → (s.ladder.active.slot p).enabled = true →
      (s.rae.commit = some ⟨p, n⟩ → seeCommit (some ⟨p, n⟩) s = s)
      ∧ (p = s.rae.e → s.rae.commit = none → seeCommit (some ⟨p, n⟩) s = s)
      ∧ (s.rae.commit ≠ some ⟨p, n⟩ → (p = s.rae.e → s.rae.commit ≠ none) →
        ∃ t, t = seeCommit (some ⟨p, n⟩) s
          ∧ t.rae = { s.rae with commit := if p = s.rae.e then none else some ⟨p, n⟩ }
          ∧ (∀ l, t.modem.get l =
              { s.modem.get l with
                waiting :=
                  if (s.modem.get l).up then
                    (s.modem.get l).waiting ++ [.receive ⟨some n, p, (s.ladder.active.slot p).modulation,
                      (s.ladder.active.slot p).codeClass⟩]
                  else (s.modem.get l).waiting })
          ∧ t.capacity.generation = s.capacity.generation + 1#16 ∧ t.RecordCurrent
          ∧ t = { s with rae := t.rae, modem := t.modem, capacity := t.capacity })))

/-- A taken header by R110 to R112: it completes the pending commit, or, when it is new, it acts on the follow counter
and candidate. A header in OFFLINE, of an excluded branch, or not new and not completing changes nothing. -/
def Obligations.HeadersCompleteAndCount : Prop :=
  ∀ (l : Branch) (h : Header) (s : State) (completing isNew : Bool) (expected : Nat),
    completing = (match s.rae.commit with
      | some k => decide ((h.number - k.switch).toNat < 32768 ∧ h.profile = k.profile)
      | none => false) →
    isNew = (match s.rae.lastHeader with
      | some k => decide (((h.number - k).toNat < 32768 ∧ h.number ≠ k) ∨ 64 < (k - h.number).toNat)
      | none => true) →
    expected = (match s.rae.commit with
      | some k => if (h.number - k.switch).toNat < 32768 then k.profile else s.rae.e
      | none => s.rae.e) →
    ((s.link = .offline ∨ s.selector.excluded.get l = true ∨ (completing = false ∧ isNew = false)) →
      raeHeader l h s = s)
    ∧ (s.link ≠ .offline → s.selector.excluded.get l = false → completing = true →
      ∃ t, t = raeHeader l h s
        ∧ t.rae = { s.rae with
            e := h.profile
            commit := none
            timeAtProfile := 0
            dwell := 0
            follow := 0
            candidate := none
            request := if s.rae.request.profile = h.profile then ⟨h.profile, .none⟩ else s.rae.request
            counters :=
              { s.rae.counters with
                upSwitches := s.rae.counters.upSwitches + (if s.rae.e < h.profile then 1#32 else 0#32)
                downSwitches := s.rae.counters.downSwitches + (if h.profile < s.rae.e then 1#32 else 0#32)
                emergencies := s.rae.counters.emergencies
                  + (if s.rae.request.kind = .emergency then 1#32 else 0#32) } }
        ∧ t.monitor = ⟨{ s.monitor.a with burst := 0 }, { s.monitor.b with burst := 0 }⟩
        ∧ t.control = s.control.afterRaising Event.profileChangedRx.flag
        ∧ t.capacity.generation = s.capacity.generation + 1#16 ∧ t.RecordCurrent
        ∧ t = { s with
            rae := t.rae
            monitor := t.monitor
            capacity := t.capacity
            control := t.control })
    ∧ (s.link ≠ .offline → s.selector.excluded.get l = false → completing = false → isNew = true →
      (h.profile = expected →
        s.ladder.active.enabledAt expected = true →
        raeHeader l h s = { s with rae :=
          { s.rae with lastHeader := some h.number, follow := 0, candidate := none } })
      ∧ (h.profile ≠ expected → s.ladder.active.enabledAt h.profile = false →
        raeHeader l h s = { s with rae :=
          { s.rae with
            lastHeader := some h.number
            counters := { s.rae.counters with unknownHeaders := s.rae.counters.unknownHeaders + 1#32 } } })
      ∧ (h.profile ≠ expected → s.ladder.active.enabledAt h.profile = true →
        ∀ n, n = (if s.rae.candidate = some h.profile then s.rae.follow + 1 else 1) → n < s.params.followCount →
        raeHeader l h s = { s with rae :=
          { s.rae with lastHeader := some h.number, follow := n, candidate := some h.profile } }))

/-- HEADER_FOLLOW is the report whose header completes the follow count, read in the state that the report's own word
leaves: *e* becomes the header's profile, the commit is discarded, the counts restart, both demodulators are ordered
from the next superframe and the record is published. A header that names the profile of a pending commit before its
switch superframe completes nothing and is counted. HEADER_FOLLOW is that whole report (assumption 2). -/
def Obligations.HeadersAreFollowed : Prop :=
  ∀ (l : Branch) (m : List Byte) (s s3 : State) (r : Report) (h : Header) (n : Nat),
    (s.modem.get l).up = true → receiveReport m = some r → r.locked = true → r.header = some h →
    s3 = reportWorded l r s → s3.link ≠ .offline → s3.selector.excluded.get l = false →
    s3.ladder.active.enabledAt h.profile = true →
    (∀ k, s3.rae.commit = some k → ¬ ((h.number - k.switch).toNat < 32768 ∧ h.profile = k.profile)) →
    (h.profile = s3.rae.e → ∃ k, s3.rae.commit = some k ∧ (h.number - k.switch).toNat < 32768) →
    (∀ k, s3.rae.lastHeader = some k →
      ((h.number - k).toNat < 32768 ∧ h.number ≠ k) ∨ 64 < (k - h.number).toNat) →
    n = (if s3.rae.candidate = some h.profile then s3.rae.follow + 1 else 1) → s3.params.followCount ≤ n →
    ∃ t, exec (.headerFollow l m) s = .next t ∧ exec (.branchReport l m) s = .next t
      ∧ t.rae = { s3.rae with
          e := h.profile
          commit := none
          follow := 0
          candidate := none
          lastHeader := some h.number
          timeAtProfile := if h.profile = s3.rae.e then s3.rae.timeAtProfile else 0
          dwell := if h.profile = s3.rae.e then s3.rae.dwell else 0
          request := if s3.rae.request.profile = h.profile then ⟨h.profile, .none⟩ else s3.rae.request
          counters := { s3.rae.counters with follows := s3.rae.counters.follows + 1#32 } }
      ∧ (∀ k, t.modem.get k =
          { s3.modem.get k with
            waiting :=
              if (s3.modem.get k).up then
                (s3.modem.get k).waiting ++ [.receive ⟨some (h.number + 1#16), h.profile,
                  (s3.ladder.active.slot h.profile).modulation, (s3.ladder.active.slot h.profile).codeClass⟩]
              else (s3.modem.get k).waiting })
      ∧ t.control = s3.control.afterRaising Event.profileFollowed.flag
      ∧ t.capacity.generation = s3.capacity.generation + 1#16 ∧ t.RecordCurrent
      ∧ t.monitor = s3.monitor ∧ t.tae = s3.tae ∧ t.link = s3.link ∧ t.peer = s3.peer

/-! ### The Transmit Adaptation Engine -/

/-- The filter of the peer's request, row by row of the table of R125; a request with no target is counted as a bad
request and nothing else. -/
def Obligations.RequestsAreFiltered : Prop :=
  (∀ (r : Request) (s : State), s.link.adapting = true → r.kind ≠ .none → s.tae.lastSlot ≠ none →
    targetOf s.ladder.active s.tae.c r.profile = none →
    takeRequest r s = { s with tae :=
      { s.tae with counters := { s.tae.counters with badRequests := s.tae.counters.badRequests + 1#32 } } })
  ∧ ∀ (l : Ladder) (c p : Nat), l.count ≤ 12 →
    (l.count ≤ p → targetOf l c p = none)
      ∧ (p < l.count → c < p →
          (∀ u, c < u → l.enabledAt u = true → (∀ j, c < j → j < u → l.enabledAt j = false) →
            targetOf l c p = some u)
          ∧ ((∀ u, c < u → l.enabledAt u = false) → targetOf l c p = none))
      ∧ (p < l.count → p < c → l.enabledAt p = true → targetOf l c p = some p)
      ∧ (p < l.count → p < c → l.enabledAt p = false →
          (∀ u, u < p → l.enabledAt u = true → (∀ j, u < j → j < p → l.enabledAt j = false) →
            targetOf l c p = some u)
          ∧ ((∀ u, u < p → l.enabledAt u = false) → targetOf l c p = some 0))
      ∧ (p < l.count → p = c → targetOf l c p = some c)

/-- The peer's request by R124 and R126 to R128: what the TAE state, the counts and the generation become, by the TAE
state and the filtered target. A drain that starts and one that is retargeted are published and then announced by a
Capacity Alert of kind DRAIN; a drain that goes on, ends or is abandoned sends none of that kind. Before it, a power request of MAX sets the attenuation to att min while ATPC enable is on
(R138). -/
def Obligations.RequestsMoveTheTransmitter : Prop :=
  (∀ (p : PowerRequest) (s : State), takePower p s =
    { s with tae :=
      { s.tae with
        attenuation := if p = .max ∧ s.params.atpc = true then s.params.attMin else s.tae.attenuation } })
  ∧ ∀ (r : Request) (s : State),
    ((s.link.adapting = false ∨ r.kind = .none ∨ s.tae.lastSlot = none) → takeRequest r s = s)
    ∧ (∀ n, s.link.adapting = true → r.kind ≠ .none → s.tae.lastSlot = some n →
      (targetOf s.ladder.active s.tae.c r.profile = none →
        takeRequest r s = { s with tae :=
          { s.tae with counters := { s.tae.counters with badRequests := s.tae.counters.badRequests + 1#32 } } })
      ∧ (∀ p toEmergency made drained, targetOf s.ladder.active s.tae.c r.profile = some p →
        toEmergency = ((⟨p, n + BitVec.ofNat 16 (min s.params.emergencyLead s.params.commitLead)⟩ : Commit)) →
        made =
          (match s.tae.state with
           | .steady =>
             if p = s.tae.c then none
             else if s.tae.c < p then some ⟨p, n + BitVec.ofNat 16 s.params.commitLead⟩
             else if r.kind = .emergency then some toEmergency else none
           | .draining _ _ _ =>
             if p = s.tae.c then none
             else if s.tae.c < p then some ⟨p, n + BitVec.ofNat 16 s.params.commitLead⟩
             else if r.kind = .emergency then some toEmergency else none
           | .committed k =>
             if p < s.tae.c ∧ r.kind = .emergency ∧ p < k.profile
                 ∧ (k.switch - n).toNat < 32768 ∧ k.switch ≠ n then some toEmergency else none) →
        drained =
          (match s.tae.state with
           | .steady =>
             if p < s.tae.c ∧ r.kind = .normal then TaeState.draining p 0 s.params.drainTimeout else .steady
           | .draining d timer limit =>
             if s.tae.c ≤ p then .steady
             else if p < d then .draining p timer limit else .draining d timer limit
           | other => other) →
        (takeRequest r s).tae =
            { s.tae with
              state := match made with
                | some k => .committed k
                | none => drained
              counters :=
                { s.tae.counters with
                  unconfirmedDownshifts := s.tae.counters.unconfirmedDownshifts
                    + (if made.isSome = true ∧ p < s.tae.c then 1#32 else 0#32)
                  emergencies := s.tae.counters.emergencies
                    + (if made.isSome = true ∧ p < s.tae.c then 1#32 else 0#32) } }
          ∧ (takeRequest r s).capacity.generation = s.capacity.generation
              + (if made.isSome then 1#16 else 0#16)
              + (match s.tae.state with
                 | .steady => if drained = .steady then 0#16 else 1#16
                 | .draining d _ _ =>
                   if s.tae.c ≤ p ∨ (p < d ∧ r.kind = .normal) then 1#16 else 0#16
                 | .committed _ => 0#16)
          ∧ (s.tae.state = .steady → p < s.tae.c → r.kind = .normal →
              takeRequest r s = requestAlert p none (publish { s with tae :=
                { s.tae with state := .draining p 0 s.params.drainTimeout } }))
          ∧ (∀ d timer limit, s.tae.state = .draining d timer limit → p < s.tae.c → r.kind = .normal →
              (p < d → takeRequest r s = requestAlert p none (publish { s with tae :=
                { s.tae with state := .draining p timer limit } }))
              ∧ (d ≤ p → takeRequest r s = s))
          ∧ (∀ d timer limit, s.tae.state = .draining d timer limit → s.tae.c = p →
              takeRequest r s = publish { s with tae := { s.tae with state := .steady } })
          ∧ (made.isSome = true → s.tae.c < p → (takeRequest r s).sent = s.sent
              ∧ (takeRequest r s).capacity.alert = s.capacity.alert)
          ∧ (∀ k, made = some k → p < s.tae.c → ∃ v, takeRequest r s = requestAlert p (some k.switch) v
              ∧ v.sent = s.sent ∧ v.capacity.alert = s.capacity.alert)
          ∧ takeRequest r s = { s with
              tae := (takeRequest r s).tae
              capacity := (takeRequest r s).capacity
              sent := (takeRequest r s).sent }))

/-- A commit by R129 and the fallback by the rows of R132, with *n*_last set. -/
def Obligations.CommitsAndFallbacksAreMade : Prop :=
  ∀ (s : State) (n : Superframe), s.tae.lastSlot = some n →
    (∀ p lead confirmed emergency, ∃ s1,
      s1 = publish { s with tae :=
        { s.tae with
          state := .committed ⟨p, n + BitVec.ofNat 16 lead⟩
          counters :=
            { s.tae.counters with
              unconfirmedDownshifts := s.tae.counters.unconfirmedDownshifts
                + (if p < s.tae.c ∧ confirmed = false then 1#32 else 0#32)
              emergencies := s.tae.counters.emergencies
                + (if p < s.tae.c ∧ emergency = true then 1#32 else 0#32) } } }
      ∧ makeCommit p lead confirmed emergency s
        = if p < s.tae.c then requestAlert p (some (n + BitVec.ofNat 16 lead)) s1 else s1)
    ∧ (s.tae.c = 0 → (∀ k, s.tae.state ≠ .committed k) → fallback s = s)
    ∧ (s.tae.c ≠ 0 → (∀ k, s.tae.state ≠ .committed k) →
        fallback s = makeCommit 0 (min s.params.emergencyLead s.params.commitLead) false false
          { s with tae := { s.tae with state := .steady } })
    ∧ (∀ k, s.tae.state = .committed k →
      (¬ ((k.switch - n).toNat < 32768 ∧ k.switch ≠ n) →
        fallback s = { s with tae := { s.tae with fallbackOwed := true } })
      ∧ ((k.switch - n).toNat < 32768 ∧ k.switch ≠ n →
        (s.tae.c = 0 → k.profile ≠ 0 → fallback s = publish { s with tae := { s.tae with state := .steady } })
        ∧ (s.tae.c ≠ 0 → k.profile ≠ 0 →
          fallback s = makeCommit 0 (min s.params.emergencyLead s.params.commitLead) false false
            { s with tae := { s.tae with state := .steady } })
        ∧ (s.tae.c ≠ 0 → k.profile = 0 → fallback s = s)))

/-- A Transmit Slot Request by R121 to R123 and R81 to R83: the switch that falls on the slot is completed, an owed
fallback is served or dropped, and one Transmit Order goes to Modem Link A, muted in OFFLINE and otherwise with the
word that speaks for the state of that moment and consumes the next challenge. A request on a link that is DOWN, from
which none arrives by R19, changes nothing (assumption 3). That the word carries the request and power request held at
the build is assumption 19. -/
def Obligations.SlotRequestsAreAnswered : Prop :=
  ∀ (l : Branch) (m : List Byte) (s : State),
    ((receiveSlotRequest l m = none ∨ (s.modem.get l).up = false) →
      exec (.transmitSlotRequest l m) s = .next s)
    ∧ (∀ n, receiveSlotRequest l m = some n → (s.modem.get l).up = true →
      ∃ s1 s2 t, exec (.transmitSlotRequest l m) s = .next t
        ∧ s1 = (match s.tae.state with
          | .committed k =>
            if (n - k.switch).toNat < 32768 then
              publish (raise .profileChangedTx { s with tae :=
                { s.tae with
                  lastSlot := some n
                  c := k.profile
                  state := .steady
                  counters :=
                    { s.tae.counters with
                      upSwitches := s.tae.counters.upSwitches + (if s.tae.c < k.profile then 1#32 else 0#32)
                      downSwitches := s.tae.counters.downSwitches
                        + (if k.profile < s.tae.c then 1#32 else 0#32) } } })
            else { s with tae := { s.tae with lastSlot := some n } }
          | _ => { s with tae := { s.tae with lastSlot := some n } })
        ∧ s2 = (if s1.tae.fallbackOwed then
            if s1.link = .fixed ∨ s1.link.code = 1 then
              fallback { s1 with tae := { s1.tae with fallbackOwed := false } }
            else { s1 with tae := { s1.tae with fallbackOwed := false } }
          else s1)
        ∧ t = (if s2.link = .offline then
            { s2 with modem := ⟨{ s2.modem.a with
                waiting := s2.modem.a.waiting ++ [.transmit ⟨n, s2.tae.attenuation, none⟩] }, s2.modem.b⟩ }
          else
            { s2 with
              modem := ⟨{ s2.modem.a with
                waiting := s2.modem.a.waiting ++ [.transmit ⟨n, s2.tae.attenuation,
                  some ⟨s2.tae.c, (s2.ladder.active.slot s2.tae.c).modulation,
                    (s2.ladder.active.slot s2.tae.c).codeClass,
                    OverheadWord.bytes
                      { hopId := s2.params.ownHop
                        adapt := s2.link.adapting
                        echo := s2.peer.fields.challenge
                        commit := match s2.tae.state with
                          | .committed k => some k
                          | _ => none
                        challenge := s2.peer.nextChallenge
                        request := s2.rae.request
                        power := s2.rae.power
                        txProfile := s2.tae.c
                        headroom := s2.tae.attenuation - s2.params.attMin
                        digest := s2.ladder.digest }⟩⟩] }, s2.modem.b⟩
              peer :=
                { s2.peer with
                  ring := (s2.peer.ring ++ [s2.peer.nextChallenge]).drop (s2.peer.ring.length + 1 - 16)
                  nextChallenge := BitVec.ofNat 8 ((37 * s2.peer.nextChallenge.toNat + 11) % 256) } }))

/-- The strobe at the TAE by R131 and R137: a drain counts and times out, with its commit, its publication and the
Capacity Alert of kind COMMIT, and the slew counter counts and steps the attenuation. DRAIN_TIMEOUT and SLEW_STEP are
that strobe when it times the drain out and when it is a slew point (assumption 2). -/
def Obligations.StrobesDrainAndSlew : Prop :=
  ∀ s : State,
    ∃ t, exec .taeStrobe s = .next t
      ∧ exec .slewStep s = .next (if 2 ^ s.params.slewIndex ≤ s.tae.slew + 1 then t else s)
      ∧ exec .drainTimeout s = .next (match s.tae.state with
          | .draining _ timer limit => if limit ≤ timer + 1 then t else s
          | _ => s)
      ∧ t.tae.slew = (if 2 ^ s.params.slewIndex ≤ s.tae.slew + 1 then 0 else s.tae.slew + 1)
      ∧ t.tae.attenuation =
          (if 2 ^ s.params.slewIndex ≤ s.tae.slew + 1 ∧ s.params.atpc = true then
            match s.peer.fields.power with
            | .hold => s.tae.attenuation
            | .raise => max s.params.attMin (s.tae.attenuation - 1)
            | .lower => min s.params.attMax (s.tae.attenuation + 1)
            | .max => s.params.attMin
           else s.tae.attenuation)
      ∧ t.tae.c = s.tae.c ∧ t.tae.lastSlot = s.tae.lastSlot ∧ t.tae.fallbackOwed = s.tae.fallbackOwed
      ∧ (match s.tae.state with
         | .draining d timer limit =>
           (timer + 1 < limit → t.tae.state = .draining d (timer + 1) limit
             ∧ t.tae.counters = s.tae.counters ∧ t.capacity = s.capacity ∧ t.sent = s.sent
             ∧ t.control = s.control)
           ∧ (limit ≤ timer + 1 → t.control = s.control.afterRaising Event.drainTimeout.flag)
           ∧ (limit ≤ timer + 1 → ∀ n, s.tae.lastSlot = some n →
             t.tae.state = .committed ⟨d, n + BitVec.ofNat 16 s.params.commitLead⟩
             ∧ t.tae.counters.drainTimeouts = s.tae.counters.drainTimeouts + 1#32
             ∧ t.tae.counters.unconfirmedDownshifts
                 = s.tae.counters.unconfirmedDownshifts + (if d < s.tae.c then 1#32 else 0#32)
             ∧ t.tae.counters.emergencies = s.tae.counters.emergencies
             ∧ t.capacity.generation = s.capacity.generation + 1#16 ∧ t.RecordCurrent
             ∧ t.capacity.held = s.capacity.held ∧ t.capacity.framing = s.capacity.framing
             ∧ t.capacity.replies = s.capacity.replies
             ∧ (∀ alert, alert = (⟨d, (s.ladder.active.slot d).capacity,
                 some (n + BitVec.ofNat 16 s.params.commitLead), s.capacity.generation + 1#16⟩ : CapacityAlert) →
               (d < s.tae.c → s.capacity.framing = true → s.capacity.held = none →
                 t.sent = { s.sent with capacity := s.sent.capacity ++ [alert.bytes] }
                   ∧ t.capacity.alert = s.capacity.alert)
               ∧ (d < s.tae.c → s.capacity.framing = true → s.capacity.held ≠ none →
                 t.sent = s.sent ∧ t.capacity.alert = some alert)
               ∧ ((s.tae.c ≤ d ∨ s.capacity.framing = false) →
                 t.sent = s.sent ∧ t.capacity.alert = s.capacity.alert)))
         | other => t.tae.state = other ∧ t.tae.counters = s.tae.counters ∧ t.capacity = s.capacity
             ∧ t.sent = s.sent ∧ t.control = s.control)
      ∧ t = { s with tae := t.tae, capacity := t.capacity, sent := t.sent, control := t.control }

/-! ### The evaluation -/

/-- The prediction, and the power request of the RSL rule by the first row that holds. -/
def Obligations.PredictionAndPowerRules : Prop :=
  (∀ (horizon : Nat) (x : Estimate),
    (0 ≤ x.slope → predict horizon x = min 500 x.snr)
      ∧ (x.slope < 0 →
          (predict horizon x : Int) = max 0 (min 500 ((x.snr : Int) + Int.floor ((x.slope * horizon : ℚ) / 10)))))
  ∧ (∀ (p : Params) (x : Option Estimate),
    (p.atpc = false → rslRule p x = .hold)
      ∧ (p.atpc = true → x = none → rslRule p x = .hold)
      ∧ (∀ g, p.atpc = true → x = some g →
          (g.rsl < p.rslLow → rslRule p x = .raise)
            ∧ (p.rslLow ≤ g.rsl → p.rslHigh < g.rsl → rslRule p x = .lower)
            ∧ (p.rslLow ≤ g.rsl → g.rsl ≤ p.rslHigh → rslRule p x = .hold)))

/-- The combined SNR of two filtered values by the steps and the table of R58; the SNR of one governing branch is its
filtered SNR, without a correction. -/
def Obligations.CombinedSnrFollowsTheTable : Prop :=
  (∀ (l : Branch) (s : State) (x : Estimate), formEstimate (some (.one l)) s = some x →
    ∃ f, (s.monitor.get l).filter = some f ∧ x.snr = (f + 32) / 64)
  ∧ ∀ x y a b d i : Nat, x ≤ 500 → y ≤ 500 → a = max x y → b = min x y → d = a - b → i = (d + 5) / 10 →
    combinedSnr x y = min 500 (a +
      (match i with
       | 0 => 30 | 1 => 25 | 2 => 21 | 3 => 18 | 4 => 15 | 5 => 12 | 6 => 10 | 7 => 8 | 8 => 6 | 9 => 5
       | 10 => 4 | 11 => 3 | 12 => 3 | 13 => 2 | 14 => 2
       | n => if n < 20 then 1 else 0))

/-- The merge of a candidate (none is hold) with the standing request, row by row of the table of R102. -/
def Obligations.CandidatesMerge : Prop :=
  ∀ (e : Nat) (standing : Request) (downward : Prop),
    (downward ↔ standing.kind ≠ .none ∧ standing.profile < e) →
    (downward → mergeRequest e standing none = standing)
      ∧ (¬ downward → mergeRequest e standing none = ⟨e, .none⟩)
      ∧ (∀ (k : Request) (urgent : Prop), k.kind ≠ .none →
          (urgent ↔ (k.kind = .emergency ∧ standing.kind = .normal)
            ∨ (k.kind = standing.kind ∧ k.profile < standing.profile)) →
          (downward → ¬ urgent → mergeRequest e standing (some k) = standing)
            ∧ (downward → urgent → mergeRequest e standing (some k) = k)
            ∧ (¬ downward → mergeRequest e standing (some k) = k))

/-- Steps 1, 2, 4 and 5 of the Diversity Selector at a strobe: the mode settles, the usable set is stored, the
estimate is formed from the governing branches, and the order called for is sent on both Modem Links when it differs
from the last one or the evaluation is the first under its mode. Outside SELECT step 3 changes nothing. The strobe
then goes on at the RAE. -/
def Obligations.SelectorEvaluates : Prop :=
  ∀ (s : State) (first : Prop) (mode : DiversityMode),
    (first ↔ s.selector.mode = none ∨ s.selector.modeWrite = true) →
    (first → mode = s.params.mode) → (¬ first → s.selector.mode = some mode) →
    ∃ u, exec .evaluation s = .next (raeEvaluate u)
      ∧ u.selector.mode = some mode ∧ u.selector.modeWrite = false ∧ u.selector.excluded = s.selector.excluded
      ∧ (∀ l, u.selector.usable.get l = true ↔
          (s.monitor.get l).status = .locked ∧ (s.monitor.get l).age ≤ 2 ∧ s.selector.excluded.get l = false)
      ∧ (mode ≠ .select → u.selector.active = s.selector.active ∧ u.control = s.control
          ∧ (first → u.selector.dwell = 0) ∧ (¬ first → u.selector.dwell = s.selector.dwell))
      ∧ (∀ l f r, (mode = .singleA ∧ l = .a) ∨ (mode = .singleB ∧ l = .b)
            ∨ (mode = .select ∧ u.selector.active = l)
            ∨ (mode = .combine ∧ ∀ k, k ≠ l → u.selector.usable.get k = false) →
          (u.selector.usable.get l = false → u.selector.estimate = none)
          ∧ (u.selector.usable.get l = true → (s.monitor.get l).filter = some f → (s.monitor.get l).rsl = some r →
              u.selector.estimate
                = some ⟨(f + 32) / 64, (s.monitor.get l).slope s.params.slopeSpan, r, .one l⟩))
      ∧ (∀ f g r q, mode = .combine → u.selector.usable = ⟨true, true⟩ →
          s.monitor.a.filter = some f → s.monitor.b.filter = some g →
          s.monitor.a.rsl = some r → s.monitor.b.rsl = some q →
          u.selector.estimate
            = some ⟨combinedSnr ((f + 32) / 64) ((g + 32) / 64),
                min (s.monitor.a.slope s.params.slopeSpan) (s.monitor.b.slope s.params.slopeSpan), max r q, .both⟩)
      ∧ (∀ order, (mode = .singleA → order = .a) → (mode = .singleB → order = .b) →
          (mode = .select → order = match u.selector.active with | .a => BranchOrder.a | .b => .b) →
          (mode = .combine → order = match u.selector.usable.a, u.selector.usable.b with
            | true, true => BranchOrder.combine
            | true, false => .a
            | false, true => .b
            | false, false => s.selector.lastOrder.getD .combine) →
          ((first ∨ s.selector.lastOrder ≠ some order) →
            u.selector.lastOrder = some order
            ∧ ∀ l, u.modem.get l =
                { s.modem.get l with
                  waiting := if (s.modem.get l).up then (s.modem.get l).waiting ++ [.branch order]
                    else (s.modem.get l).waiting })
          ∧ (¬ first → s.selector.lastOrder = some order →
              u.selector.lastOrder = some order ∧ u.modem = s.modem))
      ∧ u = { s with
          selector := u.selector
          modem := u.modem
          control :=
            { s.control with
              events := u.control.events
              attention := u.control.attention
              reported := u.control.reported } }

/-- The switching step of SELECT, row by row. BRANCH_SWITCHED is the evaluation that switches (assumption 2). -/
def Obligations.SelectSwitches : Prop :=
  ∀ (s : State) (first : Prop) (mode : DiversityMode),
    (first ↔ s.selector.mode = none ∨ s.selector.modeWrite = true) →
    (first → mode = s.params.mode) → (¬ first → s.selector.mode = some mode) →
    (mode ≠ .select → exec .branchSwitched s = .next s)
    ∧ (mode = .select → ∀ (now other : Branch) (dwell : Nat), now = s.selector.active → other ≠ now →
      (first → dwell = 0) → (¬ first → dwell = s.selector.dwell) →
      ∃ u, exec .evaluation s = .next (raeEvaluate u)
        ∧ (u.selector.usable.get now = false → u.selector.usable.get other = true →
            u.selector.active = other ∧ u.selector.dwell = 0
              ∧ u.control = s.control.afterRaising Event.branchSwitched.flag
              ∧ exec .branchSwitched s = .next (raeEvaluate u))
        ∧ (∀ f g, u.selector.usable.get now = true → u.selector.usable.get other = true →
            (s.monitor.get now).filter = some f → (s.monitor.get other).filter = some g →
            (f + 32) / 64 < (g + 32) / 64 →
            s.params.selectHysteresis ≤ (g + 32) / 64 - (f + 32) / 64 →
            (s.params.selectDwell ≤ dwell + 1 →
              u.selector.active = other ∧ u.selector.dwell = 0
                ∧ u.control = s.control.afterRaising Event.branchSwitched.flag
                ∧ exec .branchSwitched s = .next (raeEvaluate u))
            ∧ (dwell + 1 < s.params.selectDwell →
              u.selector.active = now ∧ u.selector.dwell = dwell + 1 ∧ u.control = s.control
                ∧ exec .branchSwitched s = .next s))
        ∧ ((u.selector.usable.get other = false
              ∨ (u.selector.usable.get now = true ∧ ∃ f g, (s.monitor.get now).filter = some f
                ∧ (s.monitor.get other).filter = some g
                ∧ ((g + 32) / 64 ≤ (f + 32) / 64
                  ∨ (g + 32) / 64 - (f + 32) / 64 < s.params.selectHysteresis))) →
            u.selector.active = now ∧ u.selector.dwell = 0 ∧ u.control = s.control
              ∧ exec .branchSwitched s = .next s))

/-- The RAE's evaluation on the state `u` that the selector leaves: nothing in OFFLINE; otherwise time at profile and
the prediction, the request set directly outside adaptive operation, the stall counter, and overflow noted and the
note of an UNPIN dropped (assumption 18). REQUEST_STALLED is the evaluation that raises it (assumption 2). -/
def Obligations.EvaluationOutsideAdaptive : Prop :=
  ∀ s u : State, u = selectorEvaluate s →
    (s.link = .offline → exec .evaluation s = .next u ∧ exec .requestStalled s = .next s)
    ∧ (s.link ≠ .offline → ∃ t, exec .evaluation s = .next t ∧ t = raeEvaluate u
      ∧ t.rae.timeAtProfile = min 65535 (u.rae.timeAtProfile + 1)
      ∧ t.rae.predicted = u.selector.estimate.map (predict s.params.horizon)
      ∧ t.rae.overflowNoted = false
      ∧ ((∃ w, s.link = .acquire w) ∨ s.link = .fixed →
          t.rae.request = (if u.rae.e = 0 then ⟨0, .none⟩ else ⟨0, .normal⟩))
      ∧ (∀ p, s.link = .pinned p →
          t.rae.request = (if u.rae.e = p then ⟨u.rae.e, .none⟩ else ⟨p, .normal⟩))
      ∧ (s.link = .adaptive → u.peer.fields.adapt = false → t.rae.request = ⟨u.rae.e, .none⟩)
      ∧ ((s.link ≠ .adaptive ∨ u.peer.fields.adapt = false) →
          t.rae.power = rslRule s.params u.selector.estimate ∧ t.rae.deferred = false ∧ t.rae.dwell = 0)
      ∧ (t.rae.commit = none → t.rae.request.kind ≠ .none →
          t.rae.stall = min 4096 (u.rae.stall + 1)
          ∧ (s.params.stallLimit ≤ t.rae.stall → u.rae.stallReported = false →
              t.rae.stallReported = true ∧ t.control = u.control.afterRaising Event.requestStalled.flag
                ∧ exec .requestStalled s = .next t)
          ∧ ((t.rae.stall < s.params.stallLimit ∨ u.rae.stallReported = true) →
              t.rae.stallReported = u.rae.stallReported ∧ t.control = u.control
                ∧ exec .requestStalled s = .next s))
      ∧ ((t.rae.commit ≠ none ∨ t.rae.request.kind = .none) →
          t.rae.stall = 0 ∧ t.rae.stallReported = false ∧ t.control = u.control
            ∧ exec .requestStalled s = .next s)
      ∧ t = { u with
          rae :=
            { u.rae with
              request := t.rae.request
              power := t.rae.power
              deferred := t.rae.deferred
              dwell := t.rae.dwell
              timeAtProfile := t.rae.timeAtProfile
              overflowNoted := t.rae.overflowNoted
              stall := t.rae.stall
              stallReported := t.rae.stallReported
              predicted := t.rae.predicted }
          control := t.control
          unpinned := false })

/-- The four decision steps of ADAPTIVE with peer adapt yes, on the state `u` that the selector leaves: outage and
burst, downshift with power deferral, and upshift, each merged with the standing request. The first evaluation after
an UNPIN counts its upshift dwell from 0 (R159, by the note of assumption 18). UPSHIFT_DWELL_REACHED is the evaluation
that yields an upshift candidate (assumption 2). -/
def Obligations.EvaluationInAdaptive : Prop :=
  ∀ s u t : State, u = selectorEvaluate s → t = raeEvaluate u → s.link = .adaptive → u.peer.fields.adapt = true →
    exec .evaluation s = .next t
    ∧ ((u.selector.estimate = none ∨ u.rae.overflowNoted = true) →
        t.rae.request = mergeRequest u.rae.e u.rae.request
            (if u.rae.e ≠ 0 ∨ u.rae.commit ≠ none then some ⟨0, .emergency⟩ else none)
          ∧ t.rae.power = .max ∧ t.rae.deferred = false ∧ t.rae.dwell = 0
          ∧ exec .upshiftDwellReached s = .next s)
    ∧ (∀ x v, u.selector.estimate = some x → u.rae.overflowNoted = false → v = predict s.params.horizon x →
      (0 < u.rae.e → v < (u.ladder.active.slot u.rae.e).down →
        exec .upshiftDwellReached s = .next s
        ∧ t.rae.dwell = 0
        ∧ ∀ deferral : Prop,
          (deferral ↔ s.params.atpc = true ∧ 0 < u.peer.fields.headroom
            ∧ (∀ l, (x.governing = .one l ∨ x.governing = .both) →
                (u.fade.get l).longFade = false ∧ (u.fade.get l).fastFading = false)
            ∧ (u.ladder.active.slot u.rae.e).down ≤ v + 5 * u.peer.fields.headroom
            ∧ ¬ (u.rae.request.kind ≠ .none ∧ u.rae.request.profile < u.rae.e)) →
          (deferral → t.rae.request = mergeRequest u.rae.e u.rae.request none
            ∧ t.rae.power = .raise ∧ t.rae.deferred = true)
          ∧ (¬ deferral →
            t.rae.power = rslRule s.params (some x) ∧ t.rae.deferred = false
            ∧ (∀ k, k < u.rae.e → u.ladder.active.enabledAt k = true → (u.ladder.active.slot k).down ≤ v →
                (∀ j, k < j → j < u.rae.e → u.ladder.active.enabledAt j = true →
                  v < (u.ladder.active.slot j).down) →
                t.rae.request = mergeRequest u.rae.e u.rae.request (some ⟨k, .normal⟩))
            ∧ ((∀ j, j < u.rae.e → u.ladder.active.enabledAt j = true → v < (u.ladder.active.slot j).down) →
                t.rae.request = mergeRequest u.rae.e u.rae.request (some ⟨0, .normal⟩))))
      ∧ ((u.rae.e = 0 ∨ (u.ladder.active.slot u.rae.e).down ≤ v) →
        t.rae.power = rslRule s.params (some x) ∧ t.rae.deferred = false
        ∧ ((u.rae.commit ≠ none
              ∨ (∀ k, u.rae.e < k → u.ladder.active.enabledAt k = true →
                  (∀ j, u.rae.e < j → j < k → u.ladder.active.enabledAt j = false) →
                  v < (u.ladder.active.slot k).up)) →
            t.rae.dwell = 0 ∧ t.rae.request = mergeRequest u.rae.e u.rae.request none
              ∧ exec .upshiftDwellReached s = .next s)
        ∧ (∀ k required, u.rae.commit = none → u.rae.e < k → u.ladder.active.enabledAt k = true →
            (∀ j, u.rae.e < j → j < k → u.ladder.active.enabledAt j = false) →
            (u.ladder.active.slot k).up ≤ v →
            required = (if (u.selector.usable.a = true ∧ u.fade.a.fastFading = true)
                ∨ (u.selector.usable.b = true ∧ u.fade.b.fastFading = true) then
                min 65535 (4 * s.params.upshiftDwell) else s.params.upshiftDwell) →
            t.rae.dwell = min 65535 ((if u.unpinned then 0 else u.rae.dwell) + 1)
            ∧ (required ≤ t.rae.dwell → (u.ladder.active.slot u.rae.e).minDwell ≤ t.rae.timeAtProfile →
                t.rae.request = mergeRequest u.rae.e u.rae.request (some ⟨k, .normal⟩)
                  ∧ exec .upshiftDwellReached s = .next t)
            ∧ ((t.rae.dwell < required ∨ t.rae.timeAtProfile < (u.ladder.active.slot u.rae.e).minDwell) →
                t.rae.request = mergeRequest u.rae.e u.rae.request none
                  ∧ exec .upshiftDwellReached s = .next s))))

/-! ### The Capacity Link -/

/-- A publication writes the record of the moment, each field read from its owner, into the free buffer of lowest index
and makes it the newest; an alert is formed from the ladder and the newest generation, and discarded, sent or kept. -/
def Obligations.PublicationsAndAlerts : Prop :=
  (∀ s : State, ∃ (t : State) (b : Buffer), t = publish s
    ∧ b ≠ s.capacity.newest ∧ s.capacity.held ≠ some b
    ∧ (b = .b1 → s.capacity.newest = .b0 ∨ s.capacity.held = some .b0)
    ∧ (b = .b2 → (s.capacity.newest = .b0 ∨ s.capacity.held = some .b0)
        ∧ (s.capacity.newest = .b1 ∨ s.capacity.held = some .b1))
    ∧ t.capacity.newest = b ∧ t.capacity.generation = s.capacity.generation + 1#16
    ∧ (∀ x, x ≠ b → t.capacity.buffer x = s.capacity.buffer x)
    ∧ (∀ shown : Nat → Nat,
        (s.link = .offline → ∀ p, shown p = 0) →
        (s.link ≠ .offline → ∀ p, shown p = (s.ladder.active.slot p).capacity) →
        t.capacity.buffer b =
          { generation := s.capacity.generation + 1#16
            link := match s.link with
              | .offline => 0
              | .acquire _ => 1
              | .adaptive => 2
              | .pinned _ => 3
              | .fixed => 4
            txProfile := s.tae.c
            txCapacity := shown s.tae.c
            tx := match s.tae.state with
              | .steady => .none
              | .draining d _ _ => .drainRequested d (shown d)
              | .committed k => .committed k.profile (shown k.profile) k.switch
            rxProfile := s.rae.e
            rxCapacity := shown s.rae.e
            rx := match s.rae.commit with
              | none => .none
              | some k => .committed k.profile (shown k.profile) k.switch })
    ∧ t.capacity.framing = s.capacity.framing ∧ t.capacity.held = s.capacity.held
    ∧ t.capacity.replies = s.capacity.replies ∧ t.capacity.alert = s.capacity.alert
    ∧ t = { s with capacity := t.capacity })
  ∧ (∀ (p : Nat) (n : Option Superframe) (s : State) (x : CapacityAlert),
    x = ⟨p, (s.ladder.active.slot p).capacity, n, (s.capacity.buffer s.capacity.newest).generation⟩ →
    (s.capacity.framing = false → requestAlert p n s = s)
    ∧ (s.capacity.framing = true → s.capacity.held = none →
        requestAlert p n s = { s with sent := { s.sent with capacity := s.sent.capacity ++ [x.bytes] } })
    ∧ (s.capacity.framing = true → s.capacity.held ≠ none →
        requestAlert p n s = { s with capacity := { s.capacity with alert := some x } }))

/-- The four row commands of the Capacity Link's framing and reads: framing found, framing lost with an abort of the
read in flight, a CAPACITY READ that begins a read, is answered BUSY or is discarded, and the end of a read. Framing
found while UP, framing lost while DOWN and an end with no read in flight change nothing (assumption 3); the record
bytes already sent at an abort are the environment's (assumption 7). -/
def Obligations.CapacityReads : Prop :=
  (∀ s : State, exec .capacityLinkUp s = .next { s with capacity := { s.capacity with framing := true } })
  ∧ (∀ (n : Fin 30) (s : State),
    (s.capacity.framing = false → exec (.capacityLinkReset n) s = .next s)
    ∧ (s.capacity.framing = true →
        exec (.capacityLinkReset n) s =
          .next { s with
            sent := { s.sent with
              capacity := s.sent.capacity ++
                (match s.capacity.held with
                 | none => []
                 | some b => [abortedRecordMessage (s.capacity.buffer b) n.val]) }
            capacity :=
              { s.capacity with framing := false, held := none, replies := [], alert := none } }))
  ∧ (∀ (m : List Byte) (s : State),
    ((receiveCapacityRead m = false ∨ s.capacity.framing = false
        ∨ (s.capacity.held ≠ none ∧ 8 ≤ s.capacity.replies.length)) →
      exec (.capacityRead m) s = .next s)
    ∧ (receiveCapacityRead m = true → s.capacity.framing = true → s.capacity.held = none →
      exec (.capacityRead m) s
        = .next { s with capacity := { s.capacity with held := some s.capacity.newest } })
    ∧ (receiveCapacityRead m = true → s.capacity.framing = true → s.capacity.held ≠ none →
      s.capacity.replies.length < 8 →
      exec (.capacityRead m) s
        = .next { s with capacity := { s.capacity with replies := s.capacity.replies ++ [.busy] } }))
  ∧ (∀ s : State,
    (s.capacity.held = none → exec .endOfRead s = .next s)
    ∧ (∀ b, s.capacity.held = some b →
      exec .endOfRead s =
        .next { s with
          sent := { s.sent with
            capacity := s.sent.capacity ++ completeRecordMessage (s.capacity.buffer b)
              :: (s.capacity.replies.map Reply.bytes ++ (s.capacity.alert.map CapacityAlert.bytes).toList) }
          capacity := { s.capacity with held := none, replies := [], alert := none } }))

/-- A DRAIN READY: discarded with the reply list full, and without effect with the framing DOWN, when none arrives by
R145 (assumption 3); ACCEPTED in DRAINING toward the profile it
names, with the commit made before the answer is formed and the answer before the alert; LATE otherwise. -/
def Obligations.DrainReadyIsAnswered : Prop :=
  ∀ (m : List Byte) (s : State),
    ((receiveDrainReady m = none ∨ s.capacity.framing = false
        ∨ (s.capacity.held ≠ none ∧ 8 ≤ s.capacity.replies.length)) →
      exec (.drainReady m) s = .next s)
    ∧ (∀ p, receiveDrainReady m = some p → s.capacity.framing = true →
        (s.capacity.held = none ∨ s.capacity.replies.length < 8) →
      ((∀ d timer limit, s.tae.state = .draining d timer limit → d ≠ p.toNat) →
        ∀ s1 answer, s1 = { s with tae :=
            { s.tae with counters := { s.tae.counters with lateAnswers := s.tae.counters.lateAnswers + 1#32 } } } →
          answer = Reply.drainAnswer .late p (s.capacity.buffer s.capacity.newest).generation →
          (s.capacity.held = none →
            exec (.drainReady m) s
              = .next { s1 with sent := { s.sent with capacity := s.sent.capacity ++ [answer.bytes] } })
          ∧ (s.capacity.held ≠ none →
            exec (.drainReady m) s
              = .next { s1 with capacity := { s.capacity with replies := s.capacity.replies ++ [answer] } }))
      ∧ (∀ d timer limit n, s.tae.state = .draining d timer limit → d = p.toNat → s.tae.lastSlot = some n →
        ∃ t, exec (.drainReady m) s = .next t
          ∧ t.tae = { s.tae with state := .committed ⟨d, n + BitVec.ofNat 16 s.params.commitLead⟩ }
          ∧ t.capacity.generation = s.capacity.generation + 1#16 ∧ t.RecordCurrent
          ∧ t.capacity.held = s.capacity.held ∧ t.capacity.framing = true
          ∧ (∀ answer alert, answer = Reply.drainAnswer .accepted p (s.capacity.generation + 1#16) →
            alert = (⟨d, (s.ladder.active.slot d).capacity,
              some (n + BitVec.ofNat 16 s.params.commitLead), s.capacity.generation + 1#16⟩ : CapacityAlert) →
            (s.capacity.held = none →
              t.sent = { s.sent with capacity := s.sent.capacity ++ answer.bytes
                  :: (if d < s.tae.c then [alert.bytes] else []) }
                ∧ t.capacity.replies = s.capacity.replies ∧ t.capacity.alert = s.capacity.alert)
            ∧ (s.capacity.held ≠ none →
              t.sent = s.sent ∧ t.capacity.replies = s.capacity.replies ++ [answer]
                ∧ t.capacity.alert = if d < s.tae.c then some alert else s.capacity.alert))
          ∧ t = { s with tae := t.tae, capacity := t.capacity, sent := t.sent }))

/-! ### Invariants -/

/-- Every step keeps the laws of the blocks taken one by one: the ranges of the parameters, the ladder, the monitors,
the classifiers, the selector and the attenuation, the Peer Channel, the reply list and the input store, the attention
line. -/
def Obligations.EveryStepKeepsTheBlockLaws : Prop :=
  ∀ s t : State, step s = .next t →
    (s.params.Lawful ∧ s.ladder.Lawful ∧ s.PowerLawful ∧ s.selector.InRange ∧ s.peer.Lawful
      ∧ s.monitor.a.Lawful s.params.burstThreshold.a ∧ s.monitor.b.Lawful s.params.burstThreshold.b
      ∧ s.fade.a.Lawful ∧ s.fade.b.Lawful ∧ s.capacity.Lawful ∧ s.control.Lawful) →
    t.params.Lawful ∧ t.ladder.Lawful ∧ t.PowerLawful ∧ t.selector.InRange ∧ t.peer.Lawful
      ∧ t.monitor.a.Lawful t.params.burstThreshold.a ∧ t.monitor.b.Lawful t.params.burstThreshold.b
      ∧ t.fade.a.Lawful ∧ t.fade.b.Lawful ∧ t.capacity.Lawful ∧ t.control.Lawful

/-- Every step keeps the laws that tie the link state, the ladder, the channel and the two engines together, and the
ranges of the engines' counts: adaptive operation only while the channel is UP with equal digests; *e*, *c* and every
commit and drain on enabled active entries; at rest in OFFLINE. -/
def Obligations.EveryStepKeepsTheEnginesTogether : Prop :=
  ∀ s t : State, step s = .next t →
    s.EnginesLawful ∧ s.rae.InRange ∧ s.tae.InRange → t.EnginesLawful ∧ t.rae.InRange ∧ t.tae.InRange

/-- After every step the newest Capacity Record still shows the link state, the profiles, the capacities, the drain and
the commits as they stand: every change of them publishes. The laws of the engines stand in the invariant, because a
drain with no last slot number, which no run reaches, would end without a publication. -/
def Obligations.EveryStepKeepsTheRecordCurrent : Prop :=
  ∀ s t : State, step s = .next t → s.EnginesLawful ∧ s.RecordCurrent → t.EnginesLawful ∧ t.RecordCurrent
end

