-- ==== Sys2Proof/Laws/State.lean ====
section
/-! SUPPORT. One lemma per field per update of the state: an update replaces its own block and leaves every
other one, so that no proof unfolds a record update. Then the two branches of a pair. -/

namespace Sys2Proof.Machine

/-! ### `State.withLadder` -/

@[simp] theorem State.withLadder_ladder (s : State) (x : ProfileLadder) : (s.withLadder x).ladder = x := rfl
@[simp] theorem State.withLadder_modem (s : State) (x : ProfileLadder) : (s.withLadder x).modem = s.modem := rfl
@[simp] theorem State.withLadder_monitor (s : State) (x : ProfileLadder) : (s.withLadder x).monitor = s.monitor := rfl
@[simp] theorem State.withLadder_fade (s : State) (x : ProfileLadder) : (s.withLadder x).fade = s.fade := rfl
@[simp] theorem State.withLadder_selector (s : State) (x : ProfileLadder) : (s.withLadder x).selector = s.selector := rfl
@[simp] theorem State.withLadder_peer (s : State) (x : ProfileLadder) : (s.withLadder x).peer = s.peer := rfl
@[simp] theorem State.withLadder_rae (s : State) (x : ProfileLadder) : (s.withLadder x).rae = s.rae := rfl
@[simp] theorem State.withLadder_tae (s : State) (x : ProfileLadder) : (s.withLadder x).tae = s.tae := rfl
@[simp] theorem State.withLadder_capacity (s : State) (x : ProfileLadder) : (s.withLadder x).capacity = s.capacity := rfl
@[simp] theorem State.withLadder_link (s : State) (x : ProfileLadder) : (s.withLadder x).link = s.link := rfl
@[simp] theorem State.withLadder_control (s : State) (x : ProfileLadder) : (s.withLadder x).control = s.control := rfl
@[simp] theorem State.withLadder_params (s : State) (x : ProfileLadder) : (s.withLadder x).params = s.params := rfl
@[simp] theorem State.withLadder_sent (s : State) (x : ProfileLadder) : (s.withLadder x).sent = s.sent := rfl
@[simp] theorem State.withLadder_unpinned (s : State) (x : ProfileLadder) : (s.withLadder x).unpinned = s.unpinned := rfl
@[simp] theorem State.withLadder_pending (s : State) (x : ProfileLadder) : (s.withLadder x).pending = s.pending := rfl

/-! ### `State.withModem` -/

@[simp] theorem State.withModem_ladder (s : State) (x : PerBranch ModemLink) : (s.withModem x).ladder = s.ladder := rfl
@[simp] theorem State.withModem_modem (s : State) (x : PerBranch ModemLink) : (s.withModem x).modem = x := rfl
@[simp] theorem State.withModem_monitor (s : State) (x : PerBranch ModemLink) : (s.withModem x).monitor = s.monitor := rfl
@[simp] theorem State.withModem_fade (s : State) (x : PerBranch ModemLink) : (s.withModem x).fade = s.fade := rfl
@[simp] theorem State.withModem_selector (s : State) (x : PerBranch ModemLink) : (s.withModem x).selector = s.selector := rfl
@[simp] theorem State.withModem_peer (s : State) (x : PerBranch ModemLink) : (s.withModem x).peer = s.peer := rfl
@[simp] theorem State.withModem_rae (s : State) (x : PerBranch ModemLink) : (s.withModem x).rae = s.rae := rfl
@[simp] theorem State.withModem_tae (s : State) (x : PerBranch ModemLink) : (s.withModem x).tae = s.tae := rfl
@[simp] theorem State.withModem_capacity (s : State) (x : PerBranch ModemLink) : (s.withModem x).capacity = s.capacity := rfl
@[simp] theorem State.withModem_link (s : State) (x : PerBranch ModemLink) : (s.withModem x).link = s.link := rfl
@[simp] theorem State.withModem_control (s : State) (x : PerBranch ModemLink) : (s.withModem x).control = s.control := rfl
@[simp] theorem State.withModem_params (s : State) (x : PerBranch ModemLink) : (s.withModem x).params = s.params := rfl
@[simp] theorem State.withModem_sent (s : State) (x : PerBranch ModemLink) : (s.withModem x).sent = s.sent := rfl
@[simp] theorem State.withModem_unpinned (s : State) (x : PerBranch ModemLink) : (s.withModem x).unpinned = s.unpinned := rfl
@[simp] theorem State.withModem_pending (s : State) (x : PerBranch ModemLink) : (s.withModem x).pending = s.pending := rfl

/-! ### `State.withMonitor` -/

@[simp] theorem State.withMonitor_ladder (s : State) (x : PerBranch Monitor) : (s.withMonitor x).ladder = s.ladder := rfl
@[simp] theorem State.withMonitor_modem (s : State) (x : PerBranch Monitor) : (s.withMonitor x).modem = s.modem := rfl
@[simp] theorem State.withMonitor_monitor (s : State) (x : PerBranch Monitor) : (s.withMonitor x).monitor = x := rfl
@[simp] theorem State.withMonitor_fade (s : State) (x : PerBranch Monitor) : (s.withMonitor x).fade = s.fade := rfl
@[simp] theorem State.withMonitor_selector (s : State) (x : PerBranch Monitor) : (s.withMonitor x).selector = s.selector := rfl
@[simp] theorem State.withMonitor_peer (s : State) (x : PerBranch Monitor) : (s.withMonitor x).peer = s.peer := rfl
@[simp] theorem State.withMonitor_rae (s : State) (x : PerBranch Monitor) : (s.withMonitor x).rae = s.rae := rfl
@[simp] theorem State.withMonitor_tae (s : State) (x : PerBranch Monitor) : (s.withMonitor x).tae = s.tae := rfl
@[simp] theorem State.withMonitor_capacity (s : State) (x : PerBranch Monitor) : (s.withMonitor x).capacity = s.capacity := rfl
@[simp] theorem State.withMonitor_link (s : State) (x : PerBranch Monitor) : (s.withMonitor x).link = s.link := rfl
@[simp] theorem State.withMonitor_control (s : State) (x : PerBranch Monitor) : (s.withMonitor x).control = s.control := rfl
@[simp] theorem State.withMonitor_params (s : State) (x : PerBranch Monitor) : (s.withMonitor x).params = s.params := rfl
@[simp] theorem State.withMonitor_sent (s : State) (x : PerBranch Monitor) : (s.withMonitor x).sent = s.sent := rfl
@[simp] theorem State.withMonitor_unpinned (s : State) (x : PerBranch Monitor) : (s.withMonitor x).unpinned = s.unpinned := rfl
@[simp] theorem State.withMonitor_pending (s : State) (x : PerBranch Monitor) : (s.withMonitor x).pending = s.pending := rfl

/-! ### `State.withFade` -/

@[simp] theorem State.withFade_ladder (s : State) (x : PerBranch FadeClassifier) : (s.withFade x).ladder = s.ladder := rfl
@[simp] theorem State.withFade_modem (s : State) (x : PerBranch FadeClassifier) : (s.withFade x).modem = s.modem := rfl
@[simp] theorem State.withFade_monitor (s : State) (x : PerBranch FadeClassifier) : (s.withFade x).monitor = s.monitor := rfl
@[simp] theorem State.withFade_fade (s : State) (x : PerBranch FadeClassifier) : (s.withFade x).fade = x := rfl
@[simp] theorem State.withFade_selector (s : State) (x : PerBranch FadeClassifier) : (s.withFade x).selector = s.selector := rfl
@[simp] theorem State.withFade_peer (s : State) (x : PerBranch FadeClassifier) : (s.withFade x).peer = s.peer := rfl
@[simp] theorem State.withFade_rae (s : State) (x : PerBranch FadeClassifier) : (s.withFade x).rae = s.rae := rfl
@[simp] theorem State.withFade_tae (s : State) (x : PerBranch FadeClassifier) : (s.withFade x).tae = s.tae := rfl
@[simp] theorem State.withFade_capacity (s : State) (x : PerBranch FadeClassifier) : (s.withFade x).capacity = s.capacity := rfl
@[simp] theorem State.withFade_link (s : State) (x : PerBranch FadeClassifier) : (s.withFade x).link = s.link := rfl
@[simp] theorem State.withFade_control (s : State) (x : PerBranch FadeClassifier) : (s.withFade x).control = s.control := rfl
@[simp] theorem State.withFade_params (s : State) (x : PerBranch FadeClassifier) : (s.withFade x).params = s.params := rfl
@[simp] theorem State.withFade_sent (s : State) (x : PerBranch FadeClassifier) : (s.withFade x).sent = s.sent := rfl
@[simp] theorem State.withFade_unpinned (s : State) (x : PerBranch FadeClassifier) : (s.withFade x).unpinned = s.unpinned := rfl
@[simp] theorem State.withFade_pending (s : State) (x : PerBranch FadeClassifier) : (s.withFade x).pending = s.pending := rfl

/-! ### `State.withSelector` -/

@[simp] theorem State.withSelector_ladder (s : State) (x : Selector) : (s.withSelector x).ladder = s.ladder := rfl
@[simp] theorem State.withSelector_modem (s : State) (x : Selector) : (s.withSelector x).modem = s.modem := rfl
@[simp] theorem State.withSelector_monitor (s : State) (x : Selector) : (s.withSelector x).monitor = s.monitor := rfl
@[simp] theorem State.withSelector_fade (s : State) (x : Selector) : (s.withSelector x).fade = s.fade := rfl
@[simp] theorem State.withSelector_selector (s : State) (x : Selector) : (s.withSelector x).selector = x := rfl
@[simp] theorem State.withSelector_peer (s : State) (x : Selector) : (s.withSelector x).peer = s.peer := rfl
@[simp] theorem State.withSelector_rae (s : State) (x : Selector) : (s.withSelector x).rae = s.rae := rfl
@[simp] theorem State.withSelector_tae (s : State) (x : Selector) : (s.withSelector x).tae = s.tae := rfl
@[simp] theorem State.withSelector_capacity (s : State) (x : Selector) : (s.withSelector x).capacity = s.capacity := rfl
@[simp] theorem State.withSelector_link (s : State) (x : Selector) : (s.withSelector x).link = s.link := rfl
@[simp] theorem State.withSelector_control (s : State) (x : Selector) : (s.withSelector x).control = s.control := rfl
@[simp] theorem State.withSelector_params (s : State) (x : Selector) : (s.withSelector x).params = s.params := rfl
@[simp] theorem State.withSelector_sent (s : State) (x : Selector) : (s.withSelector x).sent = s.sent := rfl
@[simp] theorem State.withSelector_unpinned (s : State) (x : Selector) : (s.withSelector x).unpinned = s.unpinned := rfl
@[simp] theorem State.withSelector_pending (s : State) (x : Selector) : (s.withSelector x).pending = s.pending := rfl

/-! ### `State.withPeer` -/

@[simp] theorem State.withPeer_ladder (s : State) (x : PeerChannel) : (s.withPeer x).ladder = s.ladder := rfl
@[simp] theorem State.withPeer_modem (s : State) (x : PeerChannel) : (s.withPeer x).modem = s.modem := rfl
@[simp] theorem State.withPeer_monitor (s : State) (x : PeerChannel) : (s.withPeer x).monitor = s.monitor := rfl
@[simp] theorem State.withPeer_fade (s : State) (x : PeerChannel) : (s.withPeer x).fade = s.fade := rfl
@[simp] theorem State.withPeer_selector (s : State) (x : PeerChannel) : (s.withPeer x).selector = s.selector := rfl
@[simp] theorem State.withPeer_peer (s : State) (x : PeerChannel) : (s.withPeer x).peer = x := rfl
@[simp] theorem State.withPeer_rae (s : State) (x : PeerChannel) : (s.withPeer x).rae = s.rae := rfl
@[simp] theorem State.withPeer_tae (s : State) (x : PeerChannel) : (s.withPeer x).tae = s.tae := rfl
@[simp] theorem State.withPeer_capacity (s : State) (x : PeerChannel) : (s.withPeer x).capacity = s.capacity := rfl
@[simp] theorem State.withPeer_link (s : State) (x : PeerChannel) : (s.withPeer x).link = s.link := rfl
@[simp] theorem State.withPeer_control (s : State) (x : PeerChannel) : (s.withPeer x).control = s.control := rfl
@[simp] theorem State.withPeer_params (s : State) (x : PeerChannel) : (s.withPeer x).params = s.params := rfl
@[simp] theorem State.withPeer_sent (s : State) (x : PeerChannel) : (s.withPeer x).sent = s.sent := rfl
@[simp] theorem State.withPeer_unpinned (s : State) (x : PeerChannel) : (s.withPeer x).unpinned = s.unpinned := rfl
@[simp] theorem State.withPeer_pending (s : State) (x : PeerChannel) : (s.withPeer x).pending = s.pending := rfl

/-! ### `State.withRae` -/

@[simp] theorem State.withRae_ladder (s : State) (x : Rae) : (s.withRae x).ladder = s.ladder := rfl
@[simp] theorem State.withRae_modem (s : State) (x : Rae) : (s.withRae x).modem = s.modem := rfl
@[simp] theorem State.withRae_monitor (s : State) (x : Rae) : (s.withRae x).monitor = s.monitor := rfl
@[simp] theorem State.withRae_fade (s : State) (x : Rae) : (s.withRae x).fade = s.fade := rfl
@[simp] theorem State.withRae_selector (s : State) (x : Rae) : (s.withRae x).selector = s.selector := rfl
@[simp] theorem State.withRae_peer (s : State) (x : Rae) : (s.withRae x).peer = s.peer := rfl
@[simp] theorem State.withRae_rae (s : State) (x : Rae) : (s.withRae x).rae = x := rfl
@[simp] theorem State.withRae_tae (s : State) (x : Rae) : (s.withRae x).tae = s.tae := rfl
@[simp] theorem State.withRae_capacity (s : State) (x : Rae) : (s.withRae x).capacity = s.capacity := rfl
@[simp] theorem State.withRae_link (s : State) (x : Rae) : (s.withRae x).link = s.link := rfl
@[simp] theorem State.withRae_control (s : State) (x : Rae) : (s.withRae x).control = s.control := rfl
@[simp] theorem State.withRae_params (s : State) (x : Rae) : (s.withRae x).params = s.params := rfl
@[simp] theorem State.withRae_sent (s : State) (x : Rae) : (s.withRae x).sent = s.sent := rfl
@[simp] theorem State.withRae_unpinned (s : State) (x : Rae) : (s.withRae x).unpinned = s.unpinned := rfl
@[simp] theorem State.withRae_pending (s : State) (x : Rae) : (s.withRae x).pending = s.pending := rfl

/-! ### `State.withTae` -/

@[simp] theorem State.withTae_ladder (s : State) (x : Tae) : (s.withTae x).ladder = s.ladder := rfl
@[simp] theorem State.withTae_modem (s : State) (x : Tae) : (s.withTae x).modem = s.modem := rfl
@[simp] theorem State.withTae_monitor (s : State) (x : Tae) : (s.withTae x).monitor = s.monitor := rfl
@[simp] theorem State.withTae_fade (s : State) (x : Tae) : (s.withTae x).fade = s.fade := rfl
@[simp] theorem State.withTae_selector (s : State) (x : Tae) : (s.withTae x).selector = s.selector := rfl
@[simp] theorem State.withTae_peer (s : State) (x : Tae) : (s.withTae x).peer = s.peer := rfl
@[simp] theorem State.withTae_rae (s : State) (x : Tae) : (s.withTae x).rae = s.rae := rfl
@[simp] theorem State.withTae_tae (s : State) (x : Tae) : (s.withTae x).tae = x := rfl
@[simp] theorem State.withTae_capacity (s : State) (x : Tae) : (s.withTae x).capacity = s.capacity := rfl
@[simp] theorem State.withTae_link (s : State) (x : Tae) : (s.withTae x).link = s.link := rfl
@[simp] theorem State.withTae_control (s : State) (x : Tae) : (s.withTae x).control = s.control := rfl
@[simp] theorem State.withTae_params (s : State) (x : Tae) : (s.withTae x).params = s.params := rfl
@[simp] theorem State.withTae_sent (s : State) (x : Tae) : (s.withTae x).sent = s.sent := rfl
@[simp] theorem State.withTae_unpinned (s : State) (x : Tae) : (s.withTae x).unpinned = s.unpinned := rfl
@[simp] theorem State.withTae_pending (s : State) (x : Tae) : (s.withTae x).pending = s.pending := rfl

/-! ### `State.withCapacity` -/

@[simp] theorem State.withCapacity_ladder (s : State) (x : CapacityLink) : (s.withCapacity x).ladder = s.ladder := rfl
@[simp] theorem State.withCapacity_modem (s : State) (x : CapacityLink) : (s.withCapacity x).modem = s.modem := rfl
@[simp] theorem State.withCapacity_monitor (s : State) (x : CapacityLink) : (s.withCapacity x).monitor = s.monitor := rfl
@[simp] theorem State.withCapacity_fade (s : State) (x : CapacityLink) : (s.withCapacity x).fade = s.fade := rfl
@[simp] theorem State.withCapacity_selector (s : State) (x : CapacityLink) : (s.withCapacity x).selector = s.selector := rfl
@[simp] theorem State.withCapacity_peer (s : State) (x : CapacityLink) : (s.withCapacity x).peer = s.peer := rfl
@[simp] theorem State.withCapacity_rae (s : State) (x : CapacityLink) : (s.withCapacity x).rae = s.rae := rfl
@[simp] theorem State.withCapacity_tae (s : State) (x : CapacityLink) : (s.withCapacity x).tae = s.tae := rfl
@[simp] theorem State.withCapacity_capacity (s : State) (x : CapacityLink) : (s.withCapacity x).capacity = x := rfl
@[simp] theorem State.withCapacity_link (s : State) (x : CapacityLink) : (s.withCapacity x).link = s.link := rfl
@[simp] theorem State.withCapacity_control (s : State) (x : CapacityLink) : (s.withCapacity x).control = s.control := rfl
@[simp] theorem State.withCapacity_params (s : State) (x : CapacityLink) : (s.withCapacity x).params = s.params := rfl
@[simp] theorem State.withCapacity_sent (s : State) (x : CapacityLink) : (s.withCapacity x).sent = s.sent := rfl
@[simp] theorem State.withCapacity_unpinned (s : State) (x : CapacityLink) : (s.withCapacity x).unpinned = s.unpinned := rfl
@[simp] theorem State.withCapacity_pending (s : State) (x : CapacityLink) : (s.withCapacity x).pending = s.pending := rfl

/-! ### `State.withLink` -/

@[simp] theorem State.withLink_ladder (s : State) (x : LinkState) : (s.withLink x).ladder = s.ladder := rfl
@[simp] theorem State.withLink_modem (s : State) (x : LinkState) : (s.withLink x).modem = s.modem := rfl
@[simp] theorem State.withLink_monitor (s : State) (x : LinkState) : (s.withLink x).monitor = s.monitor := rfl
@[simp] theorem State.withLink_fade (s : State) (x : LinkState) : (s.withLink x).fade = s.fade := rfl
@[simp] theorem State.withLink_selector (s : State) (x : LinkState) : (s.withLink x).selector = s.selector := rfl
@[simp] theorem State.withLink_peer (s : State) (x : LinkState) : (s.withLink x).peer = s.peer := rfl
@[simp] theorem State.withLink_rae (s : State) (x : LinkState) : (s.withLink x).rae = s.rae := rfl
@[simp] theorem State.withLink_tae (s : State) (x : LinkState) : (s.withLink x).tae = s.tae := rfl
@[simp] theorem State.withLink_capacity (s : State) (x : LinkState) : (s.withLink x).capacity = s.capacity := rfl
@[simp] theorem State.withLink_link (s : State) (x : LinkState) : (s.withLink x).link = x := rfl
@[simp] theorem State.withLink_control (s : State) (x : LinkState) : (s.withLink x).control = s.control := rfl
@[simp] theorem State.withLink_params (s : State) (x : LinkState) : (s.withLink x).params = s.params := rfl
@[simp] theorem State.withLink_sent (s : State) (x : LinkState) : (s.withLink x).sent = s.sent := rfl
@[simp] theorem State.withLink_unpinned (s : State) (x : LinkState) : (s.withLink x).unpinned = s.unpinned := rfl
@[simp] theorem State.withLink_pending (s : State) (x : LinkState) : (s.withLink x).pending = s.pending := rfl

/-! ### `State.withControl` -/

@[simp] theorem State.withControl_ladder (s : State) (x : ControlLink) : (s.withControl x).ladder = s.ladder := rfl
@[simp] theorem State.withControl_modem (s : State) (x : ControlLink) : (s.withControl x).modem = s.modem := rfl
@[simp] theorem State.withControl_monitor (s : State) (x : ControlLink) : (s.withControl x).monitor = s.monitor := rfl
@[simp] theorem State.withControl_fade (s : State) (x : ControlLink) : (s.withControl x).fade = s.fade := rfl
@[simp] theorem State.withControl_selector (s : State) (x : ControlLink) : (s.withControl x).selector = s.selector := rfl
@[simp] theorem State.withControl_peer (s : State) (x : ControlLink) : (s.withControl x).peer = s.peer := rfl
@[simp] theorem State.withControl_rae (s : State) (x : ControlLink) : (s.withControl x).rae = s.rae := rfl
@[simp] theorem State.withControl_tae (s : State) (x : ControlLink) : (s.withControl x).tae = s.tae := rfl
@[simp] theorem State.withControl_capacity (s : State) (x : ControlLink) : (s.withControl x).capacity = s.capacity := rfl
@[simp] theorem State.withControl_link (s : State) (x : ControlLink) : (s.withControl x).link = s.link := rfl
@[simp] theorem State.withControl_control (s : State) (x : ControlLink) : (s.withControl x).control = x := rfl
@[simp] theorem State.withControl_params (s : State) (x : ControlLink) : (s.withControl x).params = s.params := rfl
@[simp] theorem State.withControl_sent (s : State) (x : ControlLink) : (s.withControl x).sent = s.sent := rfl
@[simp] theorem State.withControl_unpinned (s : State) (x : ControlLink) : (s.withControl x).unpinned = s.unpinned := rfl
@[simp] theorem State.withControl_pending (s : State) (x : ControlLink) : (s.withControl x).pending = s.pending := rfl

/-! ### `State.withParams` -/

@[simp] theorem State.withParams_ladder (s : State) (x : Params) : (s.withParams x).ladder = s.ladder := rfl
@[simp] theorem State.withParams_modem (s : State) (x : Params) : (s.withParams x).modem = s.modem := rfl
@[simp] theorem State.withParams_monitor (s : State) (x : Params) : (s.withParams x).monitor = s.monitor := rfl
@[simp] theorem State.withParams_fade (s : State) (x : Params) : (s.withParams x).fade = s.fade := rfl
@[simp] theorem State.withParams_selector (s : State) (x : Params) : (s.withParams x).selector = s.selector := rfl
@[simp] theorem State.withParams_peer (s : State) (x : Params) : (s.withParams x).peer = s.peer := rfl
@[simp] theorem State.withParams_rae (s : State) (x : Params) : (s.withParams x).rae = s.rae := rfl
@[simp] theorem State.withParams_tae (s : State) (x : Params) : (s.withParams x).tae = s.tae := rfl
@[simp] theorem State.withParams_capacity (s : State) (x : Params) : (s.withParams x).capacity = s.capacity := rfl
@[simp] theorem State.withParams_link (s : State) (x : Params) : (s.withParams x).link = s.link := rfl
@[simp] theorem State.withParams_control (s : State) (x : Params) : (s.withParams x).control = s.control := rfl
@[simp] theorem State.withParams_params (s : State) (x : Params) : (s.withParams x).params = x := rfl
@[simp] theorem State.withParams_sent (s : State) (x : Params) : (s.withParams x).sent = s.sent := rfl
@[simp] theorem State.withParams_unpinned (s : State) (x : Params) : (s.withParams x).unpinned = s.unpinned := rfl
@[simp] theorem State.withParams_pending (s : State) (x : Params) : (s.withParams x).pending = s.pending := rfl

/-! ### `State.withSent` -/

@[simp] theorem State.withSent_ladder (s : State) (x : Sent) : (s.withSent x).ladder = s.ladder := rfl
@[simp] theorem State.withSent_modem (s : State) (x : Sent) : (s.withSent x).modem = s.modem := rfl
@[simp] theorem State.withSent_monitor (s : State) (x : Sent) : (s.withSent x).monitor = s.monitor := rfl
@[simp] theorem State.withSent_fade (s : State) (x : Sent) : (s.withSent x).fade = s.fade := rfl
@[simp] theorem State.withSent_selector (s : State) (x : Sent) : (s.withSent x).selector = s.selector := rfl
@[simp] theorem State.withSent_peer (s : State) (x : Sent) : (s.withSent x).peer = s.peer := rfl
@[simp] theorem State.withSent_rae (s : State) (x : Sent) : (s.withSent x).rae = s.rae := rfl
@[simp] theorem State.withSent_tae (s : State) (x : Sent) : (s.withSent x).tae = s.tae := rfl
@[simp] theorem State.withSent_capacity (s : State) (x : Sent) : (s.withSent x).capacity = s.capacity := rfl
@[simp] theorem State.withSent_link (s : State) (x : Sent) : (s.withSent x).link = s.link := rfl
@[simp] theorem State.withSent_control (s : State) (x : Sent) : (s.withSent x).control = s.control := rfl
@[simp] theorem State.withSent_params (s : State) (x : Sent) : (s.withSent x).params = s.params := rfl
@[simp] theorem State.withSent_sent (s : State) (x : Sent) : (s.withSent x).sent = x := rfl
@[simp] theorem State.withSent_unpinned (s : State) (x : Sent) : (s.withSent x).unpinned = s.unpinned := rfl
@[simp] theorem State.withSent_pending (s : State) (x : Sent) : (s.withSent x).pending = s.pending := rfl

/-! ### `State.withUnpinned` -/

@[simp] theorem State.withUnpinned_ladder (s : State) (x : Bool) : (s.withUnpinned x).ladder = s.ladder := rfl
@[simp] theorem State.withUnpinned_modem (s : State) (x : Bool) : (s.withUnpinned x).modem = s.modem := rfl
@[simp] theorem State.withUnpinned_monitor (s : State) (x : Bool) : (s.withUnpinned x).monitor = s.monitor := rfl
@[simp] theorem State.withUnpinned_fade (s : State) (x : Bool) : (s.withUnpinned x).fade = s.fade := rfl
@[simp] theorem State.withUnpinned_selector (s : State) (x : Bool) : (s.withUnpinned x).selector = s.selector := rfl
@[simp] theorem State.withUnpinned_peer (s : State) (x : Bool) : (s.withUnpinned x).peer = s.peer := rfl
@[simp] theorem State.withUnpinned_rae (s : State) (x : Bool) : (s.withUnpinned x).rae = s.rae := rfl
@[simp] theorem State.withUnpinned_tae (s : State) (x : Bool) : (s.withUnpinned x).tae = s.tae := rfl
@[simp] theorem State.withUnpinned_capacity (s : State) (x : Bool) : (s.withUnpinned x).capacity = s.capacity := rfl
@[simp] theorem State.withUnpinned_link (s : State) (x : Bool) : (s.withUnpinned x).link = s.link := rfl
@[simp] theorem State.withUnpinned_control (s : State) (x : Bool) : (s.withUnpinned x).control = s.control := rfl
@[simp] theorem State.withUnpinned_params (s : State) (x : Bool) : (s.withUnpinned x).params = s.params := rfl
@[simp] theorem State.withUnpinned_sent (s : State) (x : Bool) : (s.withUnpinned x).sent = s.sent := rfl
@[simp] theorem State.withUnpinned_unpinned (s : State) (x : Bool) : (s.withUnpinned x).unpinned = x := rfl
@[simp] theorem State.withUnpinned_pending (s : State) (x : Bool) : (s.withUnpinned x).pending = s.pending := rfl

/-! ### `State.withPending` -/

@[simp] theorem State.withPending_ladder (s : State) (x : List Instr) : (s.withPending x).ladder = s.ladder := rfl
@[simp] theorem State.withPending_modem (s : State) (x : List Instr) : (s.withPending x).modem = s.modem := rfl
@[simp] theorem State.withPending_monitor (s : State) (x : List Instr) : (s.withPending x).monitor = s.monitor := rfl
@[simp] theorem State.withPending_fade (s : State) (x : List Instr) : (s.withPending x).fade = s.fade := rfl
@[simp] theorem State.withPending_selector (s : State) (x : List Instr) : (s.withPending x).selector = s.selector := rfl
@[simp] theorem State.withPending_peer (s : State) (x : List Instr) : (s.withPending x).peer = s.peer := rfl
@[simp] theorem State.withPending_rae (s : State) (x : List Instr) : (s.withPending x).rae = s.rae := rfl
@[simp] theorem State.withPending_tae (s : State) (x : List Instr) : (s.withPending x).tae = s.tae := rfl
@[simp] theorem State.withPending_capacity (s : State) (x : List Instr) : (s.withPending x).capacity = s.capacity := rfl
@[simp] theorem State.withPending_link (s : State) (x : List Instr) : (s.withPending x).link = s.link := rfl
@[simp] theorem State.withPending_control (s : State) (x : List Instr) : (s.withPending x).control = s.control := rfl
@[simp] theorem State.withPending_params (s : State) (x : List Instr) : (s.withPending x).params = s.params := rfl
@[simp] theorem State.withPending_sent (s : State) (x : List Instr) : (s.withPending x).sent = s.sent := rfl
@[simp] theorem State.withPending_unpinned (s : State) (x : List Instr) : (s.withPending x).unpinned = s.unpinned := rfl
@[simp] theorem State.withPending_pending (s : State) (x : List Instr) : (s.withPending x).pending = x := rfl

/-! ### A value for each branch -/

@[simp] theorem PerBranch.get_a {α : Type} (p : PerBranch α) : p.get .a = p.a := rfl
@[simp] theorem PerBranch.get_b {α : Type} (p : PerBranch α) : p.get .b = p.b := rfl
@[simp] theorem PerBranch.set_a_a {α : Type} (p : PerBranch α) (x : α) : (p.set .a x).a = x := rfl
@[simp] theorem PerBranch.set_a_b {α : Type} (p : PerBranch α) (x : α) : (p.set .a x).b = p.b := rfl
@[simp] theorem PerBranch.set_b_a {α : Type} (p : PerBranch α) (x : α) : (p.set .b x).a = p.a := rfl
@[simp] theorem PerBranch.set_b_b {α : Type} (p : PerBranch α) (x : α) : (p.set .b x).b = x := rfl

@[simp] theorem PerBranch.get_set_same {α : Type} (p : PerBranch α) (l : Branch) (x : α) :
    (p.set l x).get l = x := by cases l <;> rfl

theorem PerBranch.get_set_other {α : Type} (p : PerBranch α) {l k : Branch} (x : α) (h : k ≠ l) :
    (p.set l x).get k = p.get k := by cases l <;> cases k <;> first | rfl | exact absurd rfl h

@[simp] theorem PerBranch.set_get {α : Type} (p : PerBranch α) (l : Branch) : p.set l (p.get l) = p := by
  cases l <;> rfl

end Sys2Proof.Machine
end

