-- ==== Sys2Proof/Laws/Frames.lean ====
section
/-! SUPPORT. The frame of every shared operation: the blocks of the state that it leaves as they are. Each lemma
names all of them at once; `simp` takes its parts one by one, so no later proof unfolds an operation to see that
some block is untouched. -/

namespace Sys2Proof.Machine

/-! ### Events (Flags.lean) -/

@[simp] theorem raise_frame (e : Event) (s : State) :
    (raise e s).ladder = s.ladder ∧ (raise e s).modem = s.modem ∧ (raise e s).monitor = s.monitor
      ∧ (raise e s).fade = s.fade ∧ (raise e s).selector = s.selector ∧ (raise e s).peer = s.peer
      ∧ (raise e s).rae = s.rae ∧ (raise e s).tae = s.tae ∧ (raise e s).capacity = s.capacity
      ∧ (raise e s).link = s.link ∧ (raise e s).params = s.params ∧ (raise e s).sent = s.sent
      ∧ (raise e s).pending = s.pending
      ∧ (raise e s).unpinned = s.unpinned := by
  simp [raise]

@[simp] theorem raiseIf_frame (b : Bool) (e : Event) (s : State) :
    (raiseIf b e s).ladder = s.ladder ∧ (raiseIf b e s).modem = s.modem ∧ (raiseIf b e s).monitor = s.monitor
      ∧ (raiseIf b e s).fade = s.fade ∧ (raiseIf b e s).selector = s.selector ∧ (raiseIf b e s).peer = s.peer
      ∧ (raiseIf b e s).rae = s.rae ∧ (raiseIf b e s).tae = s.tae ∧ (raiseIf b e s).capacity = s.capacity
      ∧ (raiseIf b e s).link = s.link ∧ (raiseIf b e s).params = s.params ∧ (raiseIf b e s).sent = s.sent
      ∧ (raiseIf b e s).pending = s.pending
      ∧ (raiseIf b e s).unpinned = s.unpinned := by
  unfold raiseIf; (repeat' split) <;> simp

/-! ### Issuing, publishing, sending (Ops.lean) -/

@[simp] theorem issue_frame (l : Branch) (m : ModemMessage) (s : State) :
    (issue l m s).ladder = s.ladder ∧ (issue l m s).monitor = s.monitor ∧ (issue l m s).fade = s.fade
      ∧ (issue l m s).selector = s.selector ∧ (issue l m s).peer = s.peer ∧ (issue l m s).rae = s.rae
      ∧ (issue l m s).tae = s.tae ∧ (issue l m s).capacity = s.capacity ∧ (issue l m s).link = s.link
      ∧ (issue l m s).control = s.control ∧ (issue l m s).params = s.params ∧ (issue l m s).sent = s.sent
      ∧ (issue l m s).pending = s.pending
      ∧ (issue l m s).unpinned = s.unpinned := by
  simp [issue]

@[simp] theorem issueBoth_frame (m : ModemMessage) (s : State) :
    (issueBoth m s).ladder = s.ladder ∧ (issueBoth m s).monitor = s.monitor ∧ (issueBoth m s).fade = s.fade
      ∧ (issueBoth m s).selector = s.selector ∧ (issueBoth m s).peer = s.peer ∧ (issueBoth m s).rae = s.rae
      ∧ (issueBoth m s).tae = s.tae ∧ (issueBoth m s).capacity = s.capacity ∧ (issueBoth m s).link = s.link
      ∧ (issueBoth m s).control = s.control ∧ (issueBoth m s).params = s.params ∧ (issueBoth m s).sent = s.sent
      ∧ (issueBoth m s).pending = s.pending
      ∧ (issueBoth m s).unpinned = s.unpinned := by
  simp [issueBoth]

@[simp] theorem sendReceiveOrder_frame (start : Option Superframe) (p : Nat) (s : State) :
    (sendReceiveOrder start p s).ladder = s.ladder ∧ (sendReceiveOrder start p s).monitor = s.monitor ∧ (sendReceiveOrder start p s).fade = s.fade
      ∧ (sendReceiveOrder start p s).selector = s.selector ∧ (sendReceiveOrder start p s).peer = s.peer ∧ (sendReceiveOrder start p s).rae = s.rae
      ∧ (sendReceiveOrder start p s).tae = s.tae ∧ (sendReceiveOrder start p s).capacity = s.capacity ∧ (sendReceiveOrder start p s).link = s.link
      ∧ (sendReceiveOrder start p s).control = s.control ∧ (sendReceiveOrder start p s).params = s.params ∧ (sendReceiveOrder start p s).sent = s.sent
      ∧ (sendReceiveOrder start p s).pending = s.pending
      ∧ (sendReceiveOrder start p s).unpinned = s.unpinned := by
  simp [sendReceiveOrder]

@[simp] theorem publish_frame (s : State) :
    (publish s).ladder = s.ladder ∧ (publish s).modem = s.modem ∧ (publish s).monitor = s.monitor
      ∧ (publish s).fade = s.fade ∧ (publish s).selector = s.selector ∧ (publish s).peer = s.peer
      ∧ (publish s).rae = s.rae ∧ (publish s).tae = s.tae ∧ (publish s).link = s.link
      ∧ (publish s).control = s.control ∧ (publish s).params = s.params ∧ (publish s).sent = s.sent
      ∧ (publish s).pending = s.pending
      ∧ (publish s).unpinned = s.unpinned := by
  simp [publish]

@[simp] theorem sendCapacity_frame (bytes : List Byte) (s : State) :
    (sendCapacity bytes s).ladder = s.ladder ∧ (sendCapacity bytes s).modem = s.modem ∧ (sendCapacity bytes s).monitor = s.monitor
      ∧ (sendCapacity bytes s).fade = s.fade ∧ (sendCapacity bytes s).selector = s.selector ∧ (sendCapacity bytes s).peer = s.peer
      ∧ (sendCapacity bytes s).rae = s.rae ∧ (sendCapacity bytes s).tae = s.tae ∧ (sendCapacity bytes s).capacity = s.capacity
      ∧ (sendCapacity bytes s).link = s.link ∧ (sendCapacity bytes s).control = s.control ∧ (sendCapacity bytes s).params = s.params
      ∧ (sendCapacity bytes s).pending = s.pending
      ∧ (sendCapacity bytes s).unpinned = s.unpinned := by
  simp [sendCapacity]

@[simp] theorem reply_frame (r : Reply) (s : State) :
    (reply r s).ladder = s.ladder ∧ (reply r s).modem = s.modem ∧ (reply r s).monitor = s.monitor
      ∧ (reply r s).fade = s.fade ∧ (reply r s).selector = s.selector ∧ (reply r s).peer = s.peer
      ∧ (reply r s).rae = s.rae ∧ (reply r s).tae = s.tae ∧ (reply r s).link = s.link
      ∧ (reply r s).control = s.control ∧ (reply r s).params = s.params ∧ (reply r s).pending = s.pending
      ∧ (reply r s).unpinned = s.unpinned := by
  unfold reply; (repeat' split) <;> simp

@[simp] theorem placeAlert_frame (x : CapacityAlert) (s : State) :
    (placeAlert x s).ladder = s.ladder ∧ (placeAlert x s).modem = s.modem ∧ (placeAlert x s).monitor = s.monitor
      ∧ (placeAlert x s).fade = s.fade ∧ (placeAlert x s).selector = s.selector ∧ (placeAlert x s).peer = s.peer
      ∧ (placeAlert x s).rae = s.rae ∧ (placeAlert x s).tae = s.tae ∧ (placeAlert x s).link = s.link
      ∧ (placeAlert x s).control = s.control ∧ (placeAlert x s).params = s.params ∧ (placeAlert x s).pending = s.pending
      ∧ (placeAlert x s).unpinned = s.unpinned := by
  unfold placeAlert; (repeat' split) <;> simp

@[simp] theorem requestAlert_frame (p : Nat) (switch : Option Superframe) (s : State) :
    (requestAlert p switch s).ladder = s.ladder ∧ (requestAlert p switch s).modem = s.modem ∧ (requestAlert p switch s).monitor = s.monitor
      ∧ (requestAlert p switch s).fade = s.fade ∧ (requestAlert p switch s).selector = s.selector ∧ (requestAlert p switch s).peer = s.peer
      ∧ (requestAlert p switch s).rae = s.rae ∧ (requestAlert p switch s).tae = s.tae ∧ (requestAlert p switch s).link = s.link
      ∧ (requestAlert p switch s).control = s.control ∧ (requestAlert p switch s).params = s.params ∧ (requestAlert p switch s).pending = s.pending
      ∧ (requestAlert p switch s).unpinned = s.unpinned := by
  simp [requestAlert]

/-! ### The transmit engine (Transmit.lean) -/

@[simp] theorem recordCommit_frame (p lead : Nat) (x y : Bool) (s : State) :
    (recordCommit p lead x y s).ladder = s.ladder ∧ (recordCommit p lead x y s).modem = s.modem ∧ (recordCommit p lead x y s).monitor = s.monitor
      ∧ (recordCommit p lead x y s).fade = s.fade ∧ (recordCommit p lead x y s).selector = s.selector ∧ (recordCommit p lead x y s).peer = s.peer
      ∧ (recordCommit p lead x y s).rae = s.rae ∧ (recordCommit p lead x y s).link = s.link ∧ (recordCommit p lead x y s).control = s.control
      ∧ (recordCommit p lead x y s).params = s.params ∧ (recordCommit p lead x y s).sent = s.sent ∧ (recordCommit p lead x y s).pending = s.pending
      ∧ (recordCommit p lead x y s).unpinned = s.unpinned := by
  unfold recordCommit; (repeat' split) <;> simp

@[simp] theorem commitAlert_frame (s : State) :
    (commitAlert s).ladder = s.ladder ∧ (commitAlert s).modem = s.modem ∧ (commitAlert s).monitor = s.monitor
      ∧ (commitAlert s).fade = s.fade ∧ (commitAlert s).selector = s.selector ∧ (commitAlert s).peer = s.peer
      ∧ (commitAlert s).rae = s.rae ∧ (commitAlert s).tae = s.tae ∧ (commitAlert s).link = s.link
      ∧ (commitAlert s).control = s.control ∧ (commitAlert s).params = s.params ∧ (commitAlert s).pending = s.pending
      ∧ (commitAlert s).unpinned = s.unpinned := by
  unfold commitAlert; (repeat' split) <;> simp

@[simp] theorem makeCommit_frame (p lead : Nat) (x y : Bool) (s : State) :
    (makeCommit p lead x y s).ladder = s.ladder ∧ (makeCommit p lead x y s).modem = s.modem ∧ (makeCommit p lead x y s).monitor = s.monitor
      ∧ (makeCommit p lead x y s).fade = s.fade ∧ (makeCommit p lead x y s).selector = s.selector ∧ (makeCommit p lead x y s).peer = s.peer
      ∧ (makeCommit p lead x y s).rae = s.rae ∧ (makeCommit p lead x y s).link = s.link ∧ (makeCommit p lead x y s).control = s.control
      ∧ (makeCommit p lead x y s).params = s.params ∧ (makeCommit p lead x y s).pending = s.pending
      ∧ (makeCommit p lead x y s).unpinned = s.unpinned := by
  simp [makeCommit]

@[simp] theorem becomeSteady_frame (s : State) :
    (becomeSteady s).ladder = s.ladder ∧ (becomeSteady s).modem = s.modem ∧ (becomeSteady s).monitor = s.monitor
      ∧ (becomeSteady s).fade = s.fade ∧ (becomeSteady s).selector = s.selector ∧ (becomeSteady s).peer = s.peer
      ∧ (becomeSteady s).rae = s.rae ∧ (becomeSteady s).capacity = s.capacity ∧ (becomeSteady s).link = s.link
      ∧ (becomeSteady s).control = s.control ∧ (becomeSteady s).params = s.params ∧ (becomeSteady s).sent = s.sent
      ∧ (becomeSteady s).pending = s.pending
      ∧ (becomeSteady s).unpinned = s.unpinned := by
  simp [becomeSteady]

@[simp] theorem setAttenuation_frame (a : Nat) (s : State) :
    (setAttenuation a s).ladder = s.ladder ∧ (setAttenuation a s).modem = s.modem ∧ (setAttenuation a s).monitor = s.monitor
      ∧ (setAttenuation a s).fade = s.fade ∧ (setAttenuation a s).selector = s.selector ∧ (setAttenuation a s).peer = s.peer
      ∧ (setAttenuation a s).rae = s.rae ∧ (setAttenuation a s).capacity = s.capacity ∧ (setAttenuation a s).link = s.link
      ∧ (setAttenuation a s).control = s.control ∧ (setAttenuation a s).params = s.params ∧ (setAttenuation a s).sent = s.sent
      ∧ (setAttenuation a s).pending = s.pending
      ∧ (setAttenuation a s).unpinned = s.unpinned := by
  simp [setAttenuation]

@[simp] theorem completeSwitch_frame (q : Nat) (s : State) :
    (completeSwitch q s).ladder = s.ladder ∧ (completeSwitch q s).modem = s.modem ∧ (completeSwitch q s).monitor = s.monitor
      ∧ (completeSwitch q s).fade = s.fade ∧ (completeSwitch q s).selector = s.selector ∧ (completeSwitch q s).peer = s.peer
      ∧ (completeSwitch q s).rae = s.rae ∧ (completeSwitch q s).link = s.link ∧ (completeSwitch q s).params = s.params
      ∧ (completeSwitch q s).sent = s.sent ∧ (completeSwitch q s).pending = s.pending
      ∧ (completeSwitch q s).unpinned = s.unpinned := by
  simp [completeSwitch]

@[simp] theorem fallback_frame (s : State) :
    (fallback s).ladder = s.ladder ∧ (fallback s).modem = s.modem ∧ (fallback s).monitor = s.monitor
      ∧ (fallback s).fade = s.fade ∧ (fallback s).selector = s.selector ∧ (fallback s).peer = s.peer
      ∧ (fallback s).rae = s.rae ∧ (fallback s).link = s.link ∧ (fallback s).control = s.control
      ∧ (fallback s).params = s.params ∧ (fallback s).pending = s.pending
      ∧ (fallback s).unpinned = s.unpinned := by
  unfold fallback; (repeat' split) <;> simp

@[simp] theorem startDrain_frame (p : Nat) (s : State) :
    (startDrain p s).ladder = s.ladder ∧ (startDrain p s).modem = s.modem ∧ (startDrain p s).monitor = s.monitor
      ∧ (startDrain p s).fade = s.fade ∧ (startDrain p s).selector = s.selector ∧ (startDrain p s).peer = s.peer
      ∧ (startDrain p s).rae = s.rae ∧ (startDrain p s).link = s.link ∧ (startDrain p s).control = s.control
      ∧ (startDrain p s).params = s.params ∧ (startDrain p s).pending = s.pending
      ∧ (startDrain p s).unpinned = s.unpinned := by
  simp [startDrain]

@[simp] theorem retarget_frame (p timer limit : Nat) (s : State) :
    (retarget p timer limit s).ladder = s.ladder ∧ (retarget p timer limit s).modem = s.modem ∧ (retarget p timer limit s).monitor = s.monitor
      ∧ (retarget p timer limit s).fade = s.fade ∧ (retarget p timer limit s).selector = s.selector ∧ (retarget p timer limit s).peer = s.peer
      ∧ (retarget p timer limit s).rae = s.rae ∧ (retarget p timer limit s).link = s.link ∧ (retarget p timer limit s).control = s.control
      ∧ (retarget p timer limit s).params = s.params ∧ (retarget p timer limit s).pending = s.pending
      ∧ (retarget p timer limit s).unpinned = s.unpinned := by
  simp [retarget]

@[simp] theorem targetSteady_frame (p : Nat) (k : RequestKind) (s : State) :
    (targetSteady p k s).ladder = s.ladder ∧ (targetSteady p k s).modem = s.modem ∧ (targetSteady p k s).monitor = s.monitor
      ∧ (targetSteady p k s).fade = s.fade ∧ (targetSteady p k s).selector = s.selector ∧ (targetSteady p k s).peer = s.peer
      ∧ (targetSteady p k s).rae = s.rae ∧ (targetSteady p k s).link = s.link ∧ (targetSteady p k s).control = s.control
      ∧ (targetSteady p k s).params = s.params ∧ (targetSteady p k s).pending = s.pending
      ∧ (targetSteady p k s).unpinned = s.unpinned := by
  unfold targetSteady; (repeat' split) <;> simp

@[simp] theorem targetDraining_frame (d timer limit p : Nat) (k : RequestKind) (s : State) :
    (targetDraining d timer limit p k s).ladder = s.ladder ∧ (targetDraining d timer limit p k s).modem = s.modem ∧ (targetDraining d timer limit p k s).monitor = s.monitor
      ∧ (targetDraining d timer limit p k s).fade = s.fade ∧ (targetDraining d timer limit p k s).selector = s.selector ∧ (targetDraining d timer limit p k s).peer = s.peer
      ∧ (targetDraining d timer limit p k s).rae = s.rae ∧ (targetDraining d timer limit p k s).link = s.link ∧ (targetDraining d timer limit p k s).control = s.control
      ∧ (targetDraining d timer limit p k s).params = s.params ∧ (targetDraining d timer limit p k s).pending = s.pending
      ∧ (targetDraining d timer limit p k s).unpinned = s.unpinned := by
  unfold targetDraining; (repeat' split) <;> simp

@[simp] theorem targetCommitted_frame (q : Commit) (p : Nat) (k : RequestKind) (s : State) :
    (targetCommitted q p k s).ladder = s.ladder ∧ (targetCommitted q p k s).modem = s.modem ∧ (targetCommitted q p k s).monitor = s.monitor
      ∧ (targetCommitted q p k s).fade = s.fade ∧ (targetCommitted q p k s).selector = s.selector ∧ (targetCommitted q p k s).peer = s.peer
      ∧ (targetCommitted q p k s).rae = s.rae ∧ (targetCommitted q p k s).link = s.link ∧ (targetCommitted q p k s).control = s.control
      ∧ (targetCommitted q p k s).params = s.params ∧ (targetCommitted q p k s).pending = s.pending
      ∧ (targetCommitted q p k s).unpinned = s.unpinned := by
  unfold targetCommitted; (repeat' split) <;> simp

@[simp] theorem handleTarget_frame (p : Nat) (k : RequestKind) (s : State) :
    (handleTarget p k s).ladder = s.ladder ∧ (handleTarget p k s).modem = s.modem ∧ (handleTarget p k s).monitor = s.monitor
      ∧ (handleTarget p k s).fade = s.fade ∧ (handleTarget p k s).selector = s.selector ∧ (handleTarget p k s).peer = s.peer
      ∧ (handleTarget p k s).rae = s.rae ∧ (handleTarget p k s).link = s.link ∧ (handleTarget p k s).control = s.control
      ∧ (handleTarget p k s).params = s.params ∧ (handleTarget p k s).pending = s.pending
      ∧ (handleTarget p k s).unpinned = s.unpinned := by
  unfold handleTarget; (repeat' split) <;> simp

@[simp] theorem countBadRequest_frame (s : State) :
    (countBadRequest s).ladder = s.ladder ∧ (countBadRequest s).modem = s.modem ∧ (countBadRequest s).monitor = s.monitor
      ∧ (countBadRequest s).fade = s.fade ∧ (countBadRequest s).selector = s.selector ∧ (countBadRequest s).peer = s.peer
      ∧ (countBadRequest s).rae = s.rae ∧ (countBadRequest s).capacity = s.capacity ∧ (countBadRequest s).link = s.link
      ∧ (countBadRequest s).control = s.control ∧ (countBadRequest s).params = s.params ∧ (countBadRequest s).sent = s.sent
      ∧ (countBadRequest s).pending = s.pending
      ∧ (countBadRequest s).unpinned = s.unpinned := by
  simp [countBadRequest]

@[simp] theorem takeRequest_frame (r : Request) (s : State) :
    (takeRequest r s).ladder = s.ladder ∧ (takeRequest r s).modem = s.modem ∧ (takeRequest r s).monitor = s.monitor
      ∧ (takeRequest r s).fade = s.fade ∧ (takeRequest r s).selector = s.selector ∧ (takeRequest r s).peer = s.peer
      ∧ (takeRequest r s).rae = s.rae ∧ (takeRequest r s).link = s.link ∧ (takeRequest r s).control = s.control
      ∧ (takeRequest r s).params = s.params ∧ (takeRequest r s).pending = s.pending
      ∧ (takeRequest r s).unpinned = s.unpinned := by
  unfold takeRequest; (repeat' split) <;> simp

@[simp] theorem takePower_frame (p : PowerRequest) (s : State) :
    (takePower p s).ladder = s.ladder ∧ (takePower p s).modem = s.modem ∧ (takePower p s).monitor = s.monitor
      ∧ (takePower p s).fade = s.fade ∧ (takePower p s).selector = s.selector ∧ (takePower p s).peer = s.peer
      ∧ (takePower p s).rae = s.rae ∧ (takePower p s).capacity = s.capacity ∧ (takePower p s).link = s.link
      ∧ (takePower p s).control = s.control ∧ (takePower p s).params = s.params ∧ (takePower p s).sent = s.sent
      ∧ (takePower p s).pending = s.pending
      ∧ (takePower p s).unpinned = s.unpinned := by
  unfold takePower; (repeat' split) <;> simp

@[simp] theorem taeHandOff_frame (x : PeerFields) (s : State) :
    (taeHandOff x s).ladder = s.ladder ∧ (taeHandOff x s).modem = s.modem ∧ (taeHandOff x s).monitor = s.monitor
      ∧ (taeHandOff x s).fade = s.fade ∧ (taeHandOff x s).selector = s.selector ∧ (taeHandOff x s).peer = s.peer
      ∧ (taeHandOff x s).rae = s.rae ∧ (taeHandOff x s).link = s.link ∧ (taeHandOff x s).control = s.control
      ∧ (taeHandOff x s).params = s.params ∧ (taeHandOff x s).pending = s.pending
      ∧ (taeHandOff x s).unpinned = s.unpinned := by
  simp [taeHandOff]

@[simp] theorem timeOutDrain_frame (d : Nat) (s : State) :
    (timeOutDrain d s).ladder = s.ladder ∧ (timeOutDrain d s).modem = s.modem ∧ (timeOutDrain d s).monitor = s.monitor
      ∧ (timeOutDrain d s).fade = s.fade ∧ (timeOutDrain d s).selector = s.selector ∧ (timeOutDrain d s).peer = s.peer
      ∧ (timeOutDrain d s).rae = s.rae ∧ (timeOutDrain d s).link = s.link ∧ (timeOutDrain d s).params = s.params
      ∧ (timeOutDrain d s).pending = s.pending
      ∧ (timeOutDrain d s).unpinned = s.unpinned := by
  simp [timeOutDrain]

@[simp] theorem drainStrobe_frame (s : State) :
    (drainStrobe s).ladder = s.ladder ∧ (drainStrobe s).modem = s.modem ∧ (drainStrobe s).monitor = s.monitor
      ∧ (drainStrobe s).fade = s.fade ∧ (drainStrobe s).selector = s.selector ∧ (drainStrobe s).peer = s.peer
      ∧ (drainStrobe s).rae = s.rae ∧ (drainStrobe s).link = s.link ∧ (drainStrobe s).params = s.params
      ∧ (drainStrobe s).pending = s.pending
      ∧ (drainStrobe s).unpinned = s.unpinned := by
  unfold drainStrobe; (repeat' split) <;> simp

@[simp] theorem slewStrobe_frame (s : State) :
    (slewStrobe s).ladder = s.ladder ∧ (slewStrobe s).modem = s.modem ∧ (slewStrobe s).monitor = s.monitor
      ∧ (slewStrobe s).fade = s.fade ∧ (slewStrobe s).selector = s.selector ∧ (slewStrobe s).peer = s.peer
      ∧ (slewStrobe s).rae = s.rae ∧ (slewStrobe s).capacity = s.capacity ∧ (slewStrobe s).link = s.link
      ∧ (slewStrobe s).control = s.control ∧ (slewStrobe s).params = s.params ∧ (slewStrobe s).sent = s.sent
      ∧ (slewStrobe s).pending = s.pending
      ∧ (slewStrobe s).unpinned = s.unpinned := by
  unfold slewStrobe; (repeat' split) <;> simp

@[simp] theorem taeStrobe_frame (s : State) :
    (taeStrobe s).ladder = s.ladder ∧ (taeStrobe s).modem = s.modem ∧ (taeStrobe s).monitor = s.monitor
      ∧ (taeStrobe s).fade = s.fade ∧ (taeStrobe s).selector = s.selector ∧ (taeStrobe s).peer = s.peer
      ∧ (taeStrobe s).rae = s.rae ∧ (taeStrobe s).link = s.link ∧ (taeStrobe s).params = s.params
      ∧ (taeStrobe s).pending = s.pending
      ∧ (taeStrobe s).unpinned = s.unpinned := by
  simp [taeStrobe]

/-! ### The receive engine (Receive.lean) -/

@[simp] theorem evaluationBegins_frame (s : State) :
    (evaluationBegins s).ladder = s.ladder ∧ (evaluationBegins s).modem = s.modem ∧ (evaluationBegins s).monitor = s.monitor
      ∧ (evaluationBegins s).fade = s.fade ∧ (evaluationBegins s).selector = s.selector ∧ (evaluationBegins s).peer = s.peer
      ∧ (evaluationBegins s).tae = s.tae ∧ (evaluationBegins s).capacity = s.capacity ∧ (evaluationBegins s).link = s.link
      ∧ (evaluationBegins s).control = s.control ∧ (evaluationBegins s).params = s.params ∧ (evaluationBegins s).sent = s.sent
      ∧ (evaluationBegins s).pending = s.pending
      ∧ (evaluationBegins s).unpinned = false := by
  simp [evaluationBegins]

@[simp] theorem evaluationDecides_frame (s : State) :
    (evaluationDecides s).ladder = s.ladder ∧ (evaluationDecides s).modem = s.modem ∧ (evaluationDecides s).monitor = s.monitor
      ∧ (evaluationDecides s).fade = s.fade ∧ (evaluationDecides s).selector = s.selector ∧ (evaluationDecides s).peer = s.peer
      ∧ (evaluationDecides s).tae = s.tae ∧ (evaluationDecides s).capacity = s.capacity ∧ (evaluationDecides s).link = s.link
      ∧ (evaluationDecides s).control = s.control ∧ (evaluationDecides s).params = s.params ∧ (evaluationDecides s).sent = s.sent
      ∧ (evaluationDecides s).pending = s.pending
      ∧ (evaluationDecides s).unpinned = false := by
  simp [evaluationDecides]

@[simp] theorem stallStep_frame (s : State) :
    (stallStep s).ladder = s.ladder ∧ (stallStep s).modem = s.modem ∧ (stallStep s).monitor = s.monitor
      ∧ (stallStep s).fade = s.fade ∧ (stallStep s).selector = s.selector ∧ (stallStep s).peer = s.peer
      ∧ (stallStep s).tae = s.tae ∧ (stallStep s).capacity = s.capacity ∧ (stallStep s).link = s.link
      ∧ (stallStep s).params = s.params ∧ (stallStep s).sent = s.sent ∧ (stallStep s).pending = s.pending
      ∧ (stallStep s).unpinned = s.unpinned := by
  unfold stallStep; (repeat' split) <;> simp

@[simp] theorem dropOverflow_frame (s : State) :
    (dropOverflow s).ladder = s.ladder ∧ (dropOverflow s).modem = s.modem ∧ (dropOverflow s).monitor = s.monitor
      ∧ (dropOverflow s).fade = s.fade ∧ (dropOverflow s).selector = s.selector ∧ (dropOverflow s).peer = s.peer
      ∧ (dropOverflow s).tae = s.tae ∧ (dropOverflow s).capacity = s.capacity ∧ (dropOverflow s).link = s.link
      ∧ (dropOverflow s).control = s.control ∧ (dropOverflow s).params = s.params ∧ (dropOverflow s).sent = s.sent
      ∧ (dropOverflow s).pending = s.pending
      ∧ (dropOverflow s).unpinned = s.unpinned := by
  simp [dropOverflow]

@[simp] theorem raeEvaluate_frame (s : State) :
    (raeEvaluate s).ladder = s.ladder ∧ (raeEvaluate s).modem = s.modem ∧ (raeEvaluate s).monitor = s.monitor
      ∧ (raeEvaluate s).fade = s.fade ∧ (raeEvaluate s).selector = s.selector ∧ (raeEvaluate s).peer = s.peer
      ∧ (raeEvaluate s).tae = s.tae ∧ (raeEvaluate s).capacity = s.capacity ∧ (raeEvaluate s).link = s.link
      ∧ (raeEvaluate s).params = s.params ∧ (raeEvaluate s).sent = s.sent ∧ (raeEvaluate s).pending = s.pending := by
  unfold raeEvaluate; (repeat' split) <;> simp

/-- The note of an UNPIN is dropped by the first evaluation outside OFFLINE (R159). -/
theorem raeEvaluate_unpinned (s : State) :
    (raeEvaluate s).unpinned = if s.link = .offline then s.unpinned else false := by
  unfold raeEvaluate; split <;> simp

/-- The upshift dwell count that the decision steps find: 0 right after an UNPIN (R159). -/
theorem evaluationBegins_dwell (s : State) :
    (evaluationBegins s).rae.dwell = if s.unpinned then 0 else s.rae.dwell := rfl

@[simp] theorem raeOverflow_frame (s : State) :
    (raeOverflow s).ladder = s.ladder ∧ (raeOverflow s).modem = s.modem ∧ (raeOverflow s).monitor = s.monitor
      ∧ (raeOverflow s).fade = s.fade ∧ (raeOverflow s).selector = s.selector ∧ (raeOverflow s).peer = s.peer
      ∧ (raeOverflow s).tae = s.tae ∧ (raeOverflow s).capacity = s.capacity ∧ (raeOverflow s).link = s.link
      ∧ (raeOverflow s).control = s.control ∧ (raeOverflow s).params = s.params ∧ (raeOverflow s).sent = s.sent
      ∧ (raeOverflow s).pending = s.pending
      ∧ (raeOverflow s).unpinned = s.unpinned := by
  unfold raeOverflow; (repeat' split) <;> simp

@[simp] theorem seeCommit_frame (k : Option Commit) (s : State) :
    (seeCommit k s).ladder = s.ladder ∧ (seeCommit k s).monitor = s.monitor ∧ (seeCommit k s).fade = s.fade
      ∧ (seeCommit k s).selector = s.selector ∧ (seeCommit k s).peer = s.peer ∧ (seeCommit k s).tae = s.tae
      ∧ (seeCommit k s).link = s.link ∧ (seeCommit k s).control = s.control ∧ (seeCommit k s).params = s.params
      ∧ (seeCommit k s).sent = s.sent ∧ (seeCommit k s).pending = s.pending
      ∧ (seeCommit k s).unpinned = s.unpinned := by
  unfold seeCommit; (repeat' split) <;> simp

@[simp] theorem clearBursts_frame (s : State) :
    (clearBursts s).ladder = s.ladder ∧ (clearBursts s).modem = s.modem ∧ (clearBursts s).fade = s.fade
      ∧ (clearBursts s).selector = s.selector ∧ (clearBursts s).peer = s.peer ∧ (clearBursts s).rae = s.rae
      ∧ (clearBursts s).tae = s.tae ∧ (clearBursts s).capacity = s.capacity ∧ (clearBursts s).link = s.link
      ∧ (clearBursts s).control = s.control ∧ (clearBursts s).params = s.params ∧ (clearBursts s).sent = s.sent
      ∧ (clearBursts s).pending = s.pending
      ∧ (clearBursts s).unpinned = s.unpinned := by
  simp [clearBursts]

@[simp] theorem completeCommit_frame (q : Nat) (s : State) :
    (completeCommit q s).ladder = s.ladder ∧ (completeCommit q s).modem = s.modem ∧ (completeCommit q s).fade = s.fade
      ∧ (completeCommit q s).selector = s.selector ∧ (completeCommit q s).peer = s.peer ∧ (completeCommit q s).tae = s.tae
      ∧ (completeCommit q s).link = s.link ∧ (completeCommit q s).params = s.params ∧ (completeCommit q s).sent = s.sent
      ∧ (completeCommit q s).pending = s.pending
      ∧ (completeCommit q s).unpinned = s.unpinned := by
  simp [completeCommit]

@[simp] theorem followHeader_frame (p : Nat) (m : Superframe) (s : State) :
    (followHeader p m s).ladder = s.ladder ∧ (followHeader p m s).monitor = s.monitor ∧ (followHeader p m s).fade = s.fade
      ∧ (followHeader p m s).selector = s.selector ∧ (followHeader p m s).peer = s.peer ∧ (followHeader p m s).tae = s.tae
      ∧ (followHeader p m s).link = s.link ∧ (followHeader p m s).params = s.params ∧ (followHeader p m s).sent = s.sent
      ∧ (followHeader p m s).pending = s.pending
      ∧ (followHeader p m s).unpinned = s.unpinned := by
  unfold followHeader; (repeat' split) <;> simp

@[simp] theorem countHeader_frame (h : Header) (s : State) :
    (countHeader h s).ladder = s.ladder ∧ (countHeader h s).modem = s.modem ∧ (countHeader h s).monitor = s.monitor
      ∧ (countHeader h s).fade = s.fade ∧ (countHeader h s).selector = s.selector ∧ (countHeader h s).peer = s.peer
      ∧ (countHeader h s).tae = s.tae ∧ (countHeader h s).capacity = s.capacity ∧ (countHeader h s).link = s.link
      ∧ (countHeader h s).control = s.control ∧ (countHeader h s).params = s.params ∧ (countHeader h s).sent = s.sent
      ∧ (countHeader h s).pending = s.pending
      ∧ (countHeader h s).unpinned = s.unpinned := by
  unfold countHeader; (repeat' split) <;> simp

@[simp] theorem takeHeader_frame (h : Header) (s : State) :
    (takeHeader h s).ladder = s.ladder ∧ (takeHeader h s).fade = s.fade ∧ (takeHeader h s).selector = s.selector
      ∧ (takeHeader h s).peer = s.peer ∧ (takeHeader h s).tae = s.tae ∧ (takeHeader h s).link = s.link
      ∧ (takeHeader h s).params = s.params ∧ (takeHeader h s).sent = s.sent ∧ (takeHeader h s).pending = s.pending
      ∧ (takeHeader h s).unpinned = s.unpinned := by
  unfold takeHeader; (repeat' split) <;> simp

@[simp] theorem raeHeader_frame (l : Branch) (h : Header) (s : State) :
    (raeHeader l h s).ladder = s.ladder ∧ (raeHeader l h s).fade = s.fade ∧ (raeHeader l h s).selector = s.selector
      ∧ (raeHeader l h s).peer = s.peer ∧ (raeHeader l h s).tae = s.tae ∧ (raeHeader l h s).link = s.link
      ∧ (raeHeader l h s).params = s.params ∧ (raeHeader l h s).sent = s.sent ∧ (raeHeader l h s).pending = s.pending
      ∧ (raeHeader l h s).unpinned = s.unpinned := by
  unfold raeHeader; (repeat' split) <;> simp

@[simp] theorem raeStart_frame (s : State) :
    (raeStart s).ladder = s.ladder ∧ (raeStart s).monitor = s.monitor ∧ (raeStart s).fade = s.fade
      ∧ (raeStart s).selector = s.selector ∧ (raeStart s).peer = s.peer ∧ (raeStart s).tae = s.tae
      ∧ (raeStart s).capacity = s.capacity ∧ (raeStart s).link = s.link ∧ (raeStart s).control = s.control
      ∧ (raeStart s).params = s.params ∧ (raeStart s).sent = s.sent ∧ (raeStart s).pending = s.pending
      ∧ (raeStart s).unpinned = s.unpinned := by
  simp [raeStart]

@[simp] theorem raeStop_frame (s : State) :
    (raeStop s).ladder = s.ladder ∧ (raeStop s).modem = s.modem ∧ (raeStop s).monitor = s.monitor
      ∧ (raeStop s).fade = s.fade ∧ (raeStop s).selector = s.selector ∧ (raeStop s).peer = s.peer
      ∧ (raeStop s).tae = s.tae ∧ (raeStop s).capacity = s.capacity ∧ (raeStop s).link = s.link
      ∧ (raeStop s).control = s.control ∧ (raeStop s).params = s.params ∧ (raeStop s).sent = s.sent
      ∧ (raeStop s).pending = s.pending
      ∧ (raeStop s).unpinned = s.unpinned := by
  simp [raeStop]

/-! ### The Link Supervisor (Supervisor.lean) -/

@[simp] theorem changeLink_id_frame (new : LinkState) (s : State) :
    (changeLink new id s).ladder = s.ladder ∧ (changeLink new id s).modem = s.modem ∧ (changeLink new id s).monitor = s.monitor
      ∧ (changeLink new id s).fade = s.fade ∧ (changeLink new id s).selector = s.selector ∧ (changeLink new id s).peer = s.peer
      ∧ (changeLink new id s).rae = s.rae ∧ (changeLink new id s).tae = s.tae ∧ (changeLink new id s).params = s.params
      ∧ (changeLink new id s).sent = s.sent ∧ (changeLink new id s).pending = s.pending
      ∧ (changeLink new id s).unpinned = s.unpinned := by
  simp [changeLink]

@[simp] theorem changeLink_fallback_frame (new : LinkState) (s : State) :
    (changeLink new fallback s).ladder = s.ladder ∧ (changeLink new fallback s).modem = s.modem ∧ (changeLink new fallback s).monitor = s.monitor
      ∧ (changeLink new fallback s).fade = s.fade ∧ (changeLink new fallback s).selector = s.selector ∧ (changeLink new fallback s).peer = s.peer
      ∧ (changeLink new fallback s).rae = s.rae ∧ (changeLink new fallback s).params = s.params ∧ (changeLink new fallback s).pending = s.pending
      ∧ (changeLink new fallback s).unpinned = s.unpinned := by
  simp [changeLink]

@[simp] theorem enterMismatch_id_frame (s : State) :
    (enterMismatch id s).ladder = s.ladder ∧ (enterMismatch id s).modem = s.modem ∧ (enterMismatch id s).monitor = s.monitor
      ∧ (enterMismatch id s).fade = s.fade ∧ (enterMismatch id s).selector = s.selector ∧ (enterMismatch id s).peer = s.peer
      ∧ (enterMismatch id s).rae = s.rae ∧ (enterMismatch id s).tae = s.tae ∧ (enterMismatch id s).params = s.params
      ∧ (enterMismatch id s).sent = s.sent ∧ (enterMismatch id s).pending = s.pending
      ∧ (enterMismatch id s).unpinned = s.unpinned := by
  simp [enterMismatch]

@[simp] theorem enterMismatch_fallback_frame (s : State) :
    (enterMismatch fallback s).ladder = s.ladder ∧ (enterMismatch fallback s).modem = s.modem ∧ (enterMismatch fallback s).monitor = s.monitor
      ∧ (enterMismatch fallback s).fade = s.fade ∧ (enterMismatch fallback s).selector = s.selector ∧ (enterMismatch fallback s).peer = s.peer
      ∧ (enterMismatch fallback s).rae = s.rae ∧ (enterMismatch fallback s).params = s.params ∧ (enterMismatch fallback s).pending = s.pending
      ∧ (enterMismatch fallback s).unpinned = s.unpinned := by
  simp [enterMismatch]

@[simp] theorem compareInAcquire_frame (r : WaitReason) (s : State) :
    (compareInAcquire r s).ladder = s.ladder ∧ (compareInAcquire r s).modem = s.modem ∧ (compareInAcquire r s).monitor = s.monitor
      ∧ (compareInAcquire r s).fade = s.fade ∧ (compareInAcquire r s).selector = s.selector ∧ (compareInAcquire r s).peer = s.peer
      ∧ (compareInAcquire r s).rae = s.rae ∧ (compareInAcquire r s).tae = s.tae ∧ (compareInAcquire r s).params = s.params
      ∧ (compareInAcquire r s).sent = s.sent ∧ (compareInAcquire r s).pending = s.pending
      ∧ (compareInAcquire r s).unpinned = s.unpinned := by
  unfold compareInAcquire; (repeat' split) <;> simp

@[simp] theorem supervisorHandOff_frame (s : State) :
    (supervisorHandOff s).ladder = s.ladder ∧ (supervisorHandOff s).modem = s.modem ∧ (supervisorHandOff s).monitor = s.monitor
      ∧ (supervisorHandOff s).fade = s.fade ∧ (supervisorHandOff s).selector = s.selector ∧ (supervisorHandOff s).peer = s.peer
      ∧ (supervisorHandOff s).rae = s.rae ∧ (supervisorHandOff s).params = s.params ∧ (supervisorHandOff s).pending = s.pending
      ∧ (supervisorHandOff s).unpinned = s.unpinned := by
  unfold supervisorHandOff; (repeat' split) <;> simp

@[simp] theorem supervisorDown_frame (s : State) :
    (supervisorDown s).ladder = s.ladder ∧ (supervisorDown s).modem = s.modem ∧ (supervisorDown s).monitor = s.monitor
      ∧ (supervisorDown s).fade = s.fade ∧ (supervisorDown s).selector = s.selector ∧ (supervisorDown s).peer = s.peer
      ∧ (supervisorDown s).rae = s.rae ∧ (supervisorDown s).params = s.params ∧ (supervisorDown s).pending = s.pending
      ∧ (supervisorDown s).unpinned = s.unpinned := by
  unfold supervisorDown; (repeat' split) <;> simp

@[simp] theorem supervisorLadder_frame (s : State) :
    (supervisorLadder s).ladder = s.ladder ∧ (supervisorLadder s).modem = s.modem ∧ (supervisorLadder s).monitor = s.monitor
      ∧ (supervisorLadder s).fade = s.fade ∧ (supervisorLadder s).selector = s.selector ∧ (supervisorLadder s).peer = s.peer
      ∧ (supervisorLadder s).rae = s.rae ∧ (supervisorLadder s).tae = s.tae ∧ (supervisorLadder s).params = s.params
      ∧ (supervisorLadder s).sent = s.sent ∧ (supervisorLadder s).pending = s.pending
      ∧ (supervisorLadder s).unpinned = s.unpinned := by
  unfold supervisorLadder; (repeat' split) <;> simp

@[simp] theorem supervisorOverflow_frame (s : State) :
    (supervisorOverflow s).ladder = s.ladder ∧ (supervisorOverflow s).modem = s.modem ∧ (supervisorOverflow s).monitor = s.monitor
      ∧ (supervisorOverflow s).fade = s.fade ∧ (supervisorOverflow s).selector = s.selector ∧ (supervisorOverflow s).peer = s.peer
      ∧ (supervisorOverflow s).rae = s.rae ∧ (supervisorOverflow s).tae = s.tae ∧ (supervisorOverflow s).params = s.params
      ∧ (supervisorOverflow s).sent = s.sent ∧ (supervisorOverflow s).pending = s.pending
      ∧ (supervisorOverflow s).unpinned = s.unpinned := by
  unfold supervisorOverflow; (repeat' split) <;> simp

/-! ### The Branch Monitors and Fade Classifiers (Monitor.lean, Fade.lean) -/

@[simp] theorem overflowNotice_frame (l : Branch) (s : State) :
    (overflowNotice l s).ladder = s.ladder ∧ (overflowNotice l s).modem = s.modem ∧ (overflowNotice l s).monitor = s.monitor
      ∧ (overflowNotice l s).fade = s.fade ∧ (overflowNotice l s).selector = s.selector ∧ (overflowNotice l s).peer = s.peer
      ∧ (overflowNotice l s).tae = s.tae ∧ (overflowNotice l s).params = s.params ∧ (overflowNotice l s).sent = s.sent
      ∧ (overflowNotice l s).pending = s.pending
      ∧ (overflowNotice l s).unpinned = s.unpinned := by
  unfold overflowNotice; (repeat' split) <;> simp

@[simp] theorem burstEffects_frame (l : Branch) (s : State) :
    (burstEffects l s).ladder = s.ladder ∧ (burstEffects l s).modem = s.modem ∧ (burstEffects l s).monitor = s.monitor
      ∧ (burstEffects l s).fade = s.fade ∧ (burstEffects l s).selector = s.selector ∧ (burstEffects l s).peer = s.peer
      ∧ (burstEffects l s).tae = s.tae ∧ (burstEffects l s).params = s.params ∧ (burstEffects l s).sent = s.sent
      ∧ (burstEffects l s).pending = s.pending
      ∧ (burstEffects l s).unpinned = s.unpinned := by
  simp [burstEffects]

@[simp] theorem monitorStep_frame (l : Branch) (r : Report) (s : State) :
    (monitorStep l r s).ladder = s.ladder ∧ (monitorStep l r s).modem = s.modem ∧ (monitorStep l r s).fade = s.fade
      ∧ (monitorStep l r s).selector = s.selector ∧ (monitorStep l r s).peer = s.peer ∧ (monitorStep l r s).rae = s.rae
      ∧ (monitorStep l r s).tae = s.tae ∧ (monitorStep l r s).capacity = s.capacity ∧ (monitorStep l r s).link = s.link
      ∧ (monitorStep l r s).control = s.control ∧ (monitorStep l r s).params = s.params ∧ (monitorStep l r s).sent = s.sent
      ∧ (monitorStep l r s).pending = s.pending
      ∧ (monitorStep l r s).unpinned = s.unpinned := by
  simp [monitorStep]

@[simp] theorem monitorReport_frame (l : Branch) (r : Report) (s : State) :
    (monitorReport l r s).ladder = s.ladder ∧ (monitorReport l r s).modem = s.modem ∧ (monitorReport l r s).fade = s.fade
      ∧ (monitorReport l r s).selector = s.selector ∧ (monitorReport l r s).peer = s.peer ∧ (monitorReport l r s).tae = s.tae
      ∧ (monitorReport l r s).params = s.params ∧ (monitorReport l r s).sent = s.sent ∧ (monitorReport l r s).pending = s.pending
      ∧ (monitorReport l r s).unpinned = s.unpinned := by
  unfold monitorReport; (repeat' split) <;> simp

@[simp] theorem fadeSteps_frame (l : Branch) (x : FadeFinding) (s : State) :
    (fadeSteps l x s).ladder = s.ladder ∧ (fadeSteps l x s).modem = s.modem ∧ (fadeSteps l x s).selector = s.selector
      ∧ (fadeSteps l x s).peer = s.peer ∧ (fadeSteps l x s).rae = s.rae ∧ (fadeSteps l x s).tae = s.tae
      ∧ (fadeSteps l x s).capacity = s.capacity ∧ (fadeSteps l x s).link = s.link ∧ (fadeSteps l x s).params = s.params
      ∧ (fadeSteps l x s).sent = s.sent ∧ (fadeSteps l x s).pending = s.pending
      ∧ (fadeSteps l x s).unpinned = s.unpinned := by
  simp [fadeSteps]

@[simp] theorem fadeReport_frame (l : Branch) (x : Option Nat) (s : State) :
    (fadeReport l x s).ladder = s.ladder ∧ (fadeReport l x s).modem = s.modem ∧ (fadeReport l x s).selector = s.selector
      ∧ (fadeReport l x s).peer = s.peer ∧ (fadeReport l x s).rae = s.rae ∧ (fadeReport l x s).tae = s.tae
      ∧ (fadeReport l x s).capacity = s.capacity ∧ (fadeReport l x s).link = s.link ∧ (fadeReport l x s).params = s.params
      ∧ (fadeReport l x s).sent = s.sent ∧ (fadeReport l x s).pending = s.pending
      ∧ (fadeReport l x s).unpinned = s.unpinned := by
  simp [fadeReport]

/-! ### The Peer Channel (Peer.lean) -/

@[simp] theorem enterDown_frame (s : State) :
    (enterDown s).ladder = s.ladder ∧ (enterDown s).modem = s.modem ∧ (enterDown s).monitor = s.monitor
      ∧ (enterDown s).fade = s.fade ∧ (enterDown s).selector = s.selector ∧ (enterDown s).rae = s.rae
      ∧ (enterDown s).params = s.params ∧ (enterDown s).pending = s.pending
      ∧ (enterDown s).unpinned = s.unpinned := by
  simp [enterDown]

@[simp] theorem foreignWord_frame (s : State) :
    (foreignWord s).ladder = s.ladder ∧ (foreignWord s).modem = s.modem ∧ (foreignWord s).monitor = s.monitor
      ∧ (foreignWord s).fade = s.fade ∧ (foreignWord s).selector = s.selector ∧ (foreignWord s).rae = s.rae
      ∧ (foreignWord s).tae = s.tae ∧ (foreignWord s).capacity = s.capacity ∧ (foreignWord s).link = s.link
      ∧ (foreignWord s).params = s.params ∧ (foreignWord s).sent = s.sent ∧ (foreignWord s).pending = s.pending
      ∧ (foreignWord s).unpinned = s.unpinned := by
  unfold foreignWord; (repeat' split) <;> simp

@[simp] theorem countBadCrc_frame (s : State) :
    (countBadCrc s).ladder = s.ladder ∧ (countBadCrc s).modem = s.modem ∧ (countBadCrc s).monitor = s.monitor
      ∧ (countBadCrc s).fade = s.fade ∧ (countBadCrc s).selector = s.selector ∧ (countBadCrc s).rae = s.rae
      ∧ (countBadCrc s).tae = s.tae ∧ (countBadCrc s).capacity = s.capacity ∧ (countBadCrc s).link = s.link
      ∧ (countBadCrc s).control = s.control ∧ (countBadCrc s).params = s.params ∧ (countBadCrc s).sent = s.sent
      ∧ (countBadCrc s).pending = s.pending
      ∧ (countBadCrc s).unpinned = s.unpinned := by
  simp [countBadCrc]

@[simp] theorem passIdentity_frame (s : State) :
    (passIdentity s).ladder = s.ladder ∧ (passIdentity s).modem = s.modem ∧ (passIdentity s).monitor = s.monitor
      ∧ (passIdentity s).fade = s.fade ∧ (passIdentity s).selector = s.selector ∧ (passIdentity s).rae = s.rae
      ∧ (passIdentity s).tae = s.tae ∧ (passIdentity s).capacity = s.capacity ∧ (passIdentity s).link = s.link
      ∧ (passIdentity s).control = s.control ∧ (passIdentity s).params = s.params ∧ (passIdentity s).sent = s.sent
      ∧ (passIdentity s).pending = s.pending
      ∧ (passIdentity s).unpinned = s.unpinned := by
  simp [passIdentity]

@[simp] theorem countDuplicate_frame (s : State) :
    (countDuplicate s).ladder = s.ladder ∧ (countDuplicate s).modem = s.modem ∧ (countDuplicate s).monitor = s.monitor
      ∧ (countDuplicate s).fade = s.fade ∧ (countDuplicate s).selector = s.selector ∧ (countDuplicate s).rae = s.rae
      ∧ (countDuplicate s).tae = s.tae ∧ (countDuplicate s).capacity = s.capacity ∧ (countDuplicate s).link = s.link
      ∧ (countDuplicate s).control = s.control ∧ (countDuplicate s).params = s.params ∧ (countDuplicate s).sent = s.sent
      ∧ (countDuplicate s).pending = s.pending
      ∧ (countDuplicate s).unpinned = s.unpinned := by
  simp [countDuplicate]

@[simp] theorem handOff_frame (x : PeerFields) (s : State) :
    (handOff x s).ladder = s.ladder ∧ (handOff x s).monitor = s.monitor ∧ (handOff x s).fade = s.fade
      ∧ (handOff x s).selector = s.selector ∧ (handOff x s).peer = s.peer ∧ (handOff x s).params = s.params
      ∧ (handOff x s).pending = s.pending
      ∧ (handOff x s).unpinned = s.unpinned := by
  simp [handOff]

@[simp] theorem acceptWord_frame (m : Superframe) (w : OverheadWord) (s : State) :
    (acceptWord m w s).ladder = s.ladder ∧ (acceptWord m w s).monitor = s.monitor ∧ (acceptWord m w s).fade = s.fade
      ∧ (acceptWord m w s).selector = s.selector ∧ (acceptWord m w s).params = s.params ∧ (acceptWord m w s).pending = s.pending
      ∧ (acceptWord m w s).unpinned = s.unpinned := by
  unfold acceptWord; (repeat' split) <;> simp

@[simp] theorem checkOrder_frame (m : Superframe) (w : OverheadWord) (s : State) :
    (checkOrder m w s).ladder = s.ladder ∧ (checkOrder m w s).monitor = s.monitor ∧ (checkOrder m w s).fade = s.fade
      ∧ (checkOrder m w s).selector = s.selector ∧ (checkOrder m w s).params = s.params ∧ (checkOrder m w s).pending = s.pending
      ∧ (checkOrder m w s).unpinned = s.unpinned := by
  unfold checkOrder; (repeat' split) <;> simp

@[simp] theorem checkIdentity_frame (m : Superframe) (w : OverheadWord) (s : State) :
    (checkIdentity m w s).ladder = s.ladder ∧ (checkIdentity m w s).monitor = s.monitor ∧ (checkIdentity m w s).fade = s.fade
      ∧ (checkIdentity m w s).selector = s.selector ∧ (checkIdentity m w s).params = s.params ∧ (checkIdentity m w s).pending = s.pending
      ∧ (checkIdentity m w s).unpinned = s.unpinned := by
  unfold checkIdentity; (repeat' split) <;> simp

@[simp] theorem checkWord_frame (m : Superframe) (bytes : List Byte) (s : State) :
    (checkWord m bytes s).ladder = s.ladder ∧ (checkWord m bytes s).monitor = s.monitor ∧ (checkWord m bytes s).fade = s.fade
      ∧ (checkWord m bytes s).selector = s.selector ∧ (checkWord m bytes s).params = s.params ∧ (checkWord m bytes s).pending = s.pending
      ∧ (checkWord m bytes s).unpinned = s.unpinned := by
  unfold checkWord; (repeat' split) <;> simp

@[simp] theorem silenceStrobe_frame (s : State) :
    (silenceStrobe s).ladder = s.ladder ∧ (silenceStrobe s).modem = s.modem ∧ (silenceStrobe s).monitor = s.monitor
      ∧ (silenceStrobe s).fade = s.fade ∧ (silenceStrobe s).selector = s.selector ∧ (silenceStrobe s).rae = s.rae
      ∧ (silenceStrobe s).params = s.params ∧ (silenceStrobe s).pending = s.pending
      ∧ (silenceStrobe s).unpinned = s.unpinned := by
  unfold silenceStrobe; (repeat' split) <;> simp

/-! ### The report as a whole (Report.lean) -/

@[simp] theorem reportClassified_frame (l : Branch) (r : Report) (s : State) :
    (reportClassified l r s).ladder = s.ladder ∧ (reportClassified l r s).modem = s.modem ∧ (reportClassified l r s).selector = s.selector
      ∧ (reportClassified l r s).peer = s.peer ∧ (reportClassified l r s).tae = s.tae ∧ (reportClassified l r s).params = s.params
      ∧ (reportClassified l r s).sent = s.sent ∧ (reportClassified l r s).pending = s.pending
      ∧ (reportClassified l r s).unpinned = s.unpinned := by
  simp [reportClassified]

@[simp] theorem wordStep_frame (r : Report) (s : State) :
    (wordStep r s).ladder = s.ladder ∧ (wordStep r s).monitor = s.monitor ∧ (wordStep r s).fade = s.fade
      ∧ (wordStep r s).selector = s.selector ∧ (wordStep r s).params = s.params ∧ (wordStep r s).pending = s.pending
      ∧ (wordStep r s).unpinned = s.unpinned := by
  unfold wordStep; (repeat' split) <;> simp

@[simp] theorem headerStep_frame (l : Branch) (r : Report) (s : State) :
    (headerStep l r s).ladder = s.ladder ∧ (headerStep l r s).fade = s.fade ∧ (headerStep l r s).selector = s.selector
      ∧ (headerStep l r s).peer = s.peer ∧ (headerStep l r s).tae = s.tae ∧ (headerStep l r s).link = s.link
      ∧ (headerStep l r s).params = s.params ∧ (headerStep l r s).sent = s.sent ∧ (headerStep l r s).pending = s.pending
      ∧ (headerStep l r s).unpinned = s.unpinned := by
  unfold headerStep; (repeat' split) <;> simp

@[simp] theorem reportWorded_frame (l : Branch) (r : Report) (s : State) :
    (reportWorded l r s).ladder = s.ladder ∧ (reportWorded l r s).selector = s.selector ∧ (reportWorded l r s).params = s.params
      ∧ (reportWorded l r s).pending = s.pending
      ∧ (reportWorded l r s).unpinned = s.unpinned := by
  simp [reportWorded]

@[simp] theorem handleReport_frame (l : Branch) (r : Report) (s : State) :
    (handleReport l r s).ladder = s.ladder ∧ (handleReport l r s).selector = s.selector ∧ (handleReport l r s).params = s.params
      ∧ (handleReport l r s).pending = s.pending
      ∧ (handleReport l r s).unpinned = s.unpinned := by
  simp [handleReport]

/-! ### The slot request (SlotRequest.lean) -/

@[simp] theorem switchDue_frame (n : Superframe) (s : State) :
    (switchDue n s).ladder = s.ladder ∧ (switchDue n s).modem = s.modem ∧ (switchDue n s).monitor = s.monitor
      ∧ (switchDue n s).fade = s.fade ∧ (switchDue n s).selector = s.selector ∧ (switchDue n s).peer = s.peer
      ∧ (switchDue n s).rae = s.rae ∧ (switchDue n s).link = s.link ∧ (switchDue n s).params = s.params
      ∧ (switchDue n s).sent = s.sent ∧ (switchDue n s).pending = s.pending
      ∧ (switchDue n s).unpinned = s.unpinned := by
  unfold switchDue; (repeat' split) <;> simp

@[simp] theorem serveFallback_frame (s : State) :
    (serveFallback s).ladder = s.ladder ∧ (serveFallback s).modem = s.modem ∧ (serveFallback s).monitor = s.monitor
      ∧ (serveFallback s).fade = s.fade ∧ (serveFallback s).selector = s.selector ∧ (serveFallback s).peer = s.peer
      ∧ (serveFallback s).rae = s.rae ∧ (serveFallback s).link = s.link ∧ (serveFallback s).control = s.control
      ∧ (serveFallback s).params = s.params ∧ (serveFallback s).pending = s.pending
      ∧ (serveFallback s).unpinned = s.unpinned := by
  unfold serveFallback; (repeat' split) <;> simp

@[simp] theorem sendTransmitOrder_frame (n : Superframe) (s : State) :
    (sendTransmitOrder n s).ladder = s.ladder ∧ (sendTransmitOrder n s).monitor = s.monitor ∧ (sendTransmitOrder n s).fade = s.fade
      ∧ (sendTransmitOrder n s).selector = s.selector ∧ (sendTransmitOrder n s).rae = s.rae ∧ (sendTransmitOrder n s).tae = s.tae
      ∧ (sendTransmitOrder n s).capacity = s.capacity ∧ (sendTransmitOrder n s).link = s.link ∧ (sendTransmitOrder n s).control = s.control
      ∧ (sendTransmitOrder n s).params = s.params ∧ (sendTransmitOrder n s).sent = s.sent ∧ (sendTransmitOrder n s).pending = s.pending
      ∧ (sendTransmitOrder n s).unpinned = s.unpinned := by
  unfold sendTransmitOrder; (repeat' split) <;> simp

@[simp] theorem handleSlot_frame (n : Superframe) (s : State) :
    (handleSlot n s).ladder = s.ladder ∧ (handleSlot n s).monitor = s.monitor ∧ (handleSlot n s).fade = s.fade
      ∧ (handleSlot n s).selector = s.selector ∧ (handleSlot n s).rae = s.rae ∧ (handleSlot n s).link = s.link
      ∧ (handleSlot n s).params = s.params ∧ (handleSlot n s).pending = s.pending
      ∧ (handleSlot n s).unpinned = s.unpinned := by
  simp [handleSlot]

/-! ### The Diversity Selector (Evaluation.lean) -/

@[simp] theorem settleMode_frame (s : State) :
    (settleMode s).ladder = s.ladder ∧ (settleMode s).modem = s.modem ∧ (settleMode s).monitor = s.monitor
      ∧ (settleMode s).fade = s.fade ∧ (settleMode s).peer = s.peer ∧ (settleMode s).rae = s.rae
      ∧ (settleMode s).tae = s.tae ∧ (settleMode s).capacity = s.capacity ∧ (settleMode s).link = s.link
      ∧ (settleMode s).control = s.control ∧ (settleMode s).params = s.params ∧ (settleMode s).sent = s.sent
      ∧ (settleMode s).pending = s.pending
      ∧ (settleMode s).unpinned = s.unpinned := by
  unfold settleMode; (repeat' split) <;> simp

@[simp] theorem storeUsable_frame (s : State) :
    (storeUsable s).ladder = s.ladder ∧ (storeUsable s).modem = s.modem ∧ (storeUsable s).monitor = s.monitor
      ∧ (storeUsable s).fade = s.fade ∧ (storeUsable s).peer = s.peer ∧ (storeUsable s).rae = s.rae
      ∧ (storeUsable s).tae = s.tae ∧ (storeUsable s).capacity = s.capacity ∧ (storeUsable s).link = s.link
      ∧ (storeUsable s).control = s.control ∧ (storeUsable s).params = s.params ∧ (storeUsable s).sent = s.sent
      ∧ (storeUsable s).pending = s.pending
      ∧ (storeUsable s).unpinned = s.unpinned := by
  simp [storeUsable]

@[simp] theorem switchBranch_frame (s : State) :
    (switchBranch s).ladder = s.ladder ∧ (switchBranch s).modem = s.modem ∧ (switchBranch s).monitor = s.monitor
      ∧ (switchBranch s).fade = s.fade ∧ (switchBranch s).peer = s.peer ∧ (switchBranch s).rae = s.rae
      ∧ (switchBranch s).tae = s.tae ∧ (switchBranch s).capacity = s.capacity ∧ (switchBranch s).link = s.link
      ∧ (switchBranch s).params = s.params ∧ (switchBranch s).sent = s.sent ∧ (switchBranch s).pending = s.pending
      ∧ (switchBranch s).unpinned = s.unpinned := by
  simp [switchBranch]

@[simp] theorem switchingStep_frame (s : State) :
    (switchingStep s).ladder = s.ladder ∧ (switchingStep s).modem = s.modem ∧ (switchingStep s).monitor = s.monitor
      ∧ (switchingStep s).fade = s.fade ∧ (switchingStep s).peer = s.peer ∧ (switchingStep s).rae = s.rae
      ∧ (switchingStep s).tae = s.tae ∧ (switchingStep s).capacity = s.capacity ∧ (switchingStep s).link = s.link
      ∧ (switchingStep s).params = s.params ∧ (switchingStep s).sent = s.sent ∧ (switchingStep s).pending = s.pending
      ∧ (switchingStep s).unpinned = s.unpinned := by
  unfold switchingStep; (repeat' split) <;> simp

@[simp] theorem chooseActive_frame (s : State) :
    (chooseActive s).ladder = s.ladder ∧ (chooseActive s).modem = s.modem ∧ (chooseActive s).monitor = s.monitor
      ∧ (chooseActive s).fade = s.fade ∧ (chooseActive s).peer = s.peer ∧ (chooseActive s).rae = s.rae
      ∧ (chooseActive s).tae = s.tae ∧ (chooseActive s).capacity = s.capacity ∧ (chooseActive s).link = s.link
      ∧ (chooseActive s).params = s.params ∧ (chooseActive s).sent = s.sent ∧ (chooseActive s).pending = s.pending
      ∧ (chooseActive s).unpinned = s.unpinned := by
  unfold chooseActive; (repeat' split) <;> simp

@[simp] theorem storeEstimate_frame (s : State) :
    (storeEstimate s).ladder = s.ladder ∧ (storeEstimate s).modem = s.modem ∧ (storeEstimate s).monitor = s.monitor
      ∧ (storeEstimate s).fade = s.fade ∧ (storeEstimate s).peer = s.peer ∧ (storeEstimate s).rae = s.rae
      ∧ (storeEstimate s).tae = s.tae ∧ (storeEstimate s).capacity = s.capacity ∧ (storeEstimate s).link = s.link
      ∧ (storeEstimate s).control = s.control ∧ (storeEstimate s).params = s.params ∧ (storeEstimate s).sent = s.sent
      ∧ (storeEstimate s).pending = s.pending
      ∧ (storeEstimate s).unpinned = s.unpinned := by
  simp [storeEstimate]

@[simp] theorem sendBranchOrder_frame (o : BranchOrder) (s : State) :
    (sendBranchOrder o s).ladder = s.ladder ∧ (sendBranchOrder o s).monitor = s.monitor ∧ (sendBranchOrder o s).fade = s.fade
      ∧ (sendBranchOrder o s).peer = s.peer ∧ (sendBranchOrder o s).rae = s.rae ∧ (sendBranchOrder o s).tae = s.tae
      ∧ (sendBranchOrder o s).capacity = s.capacity ∧ (sendBranchOrder o s).link = s.link ∧ (sendBranchOrder o s).control = s.control
      ∧ (sendBranchOrder o s).params = s.params ∧ (sendBranchOrder o s).sent = s.sent ∧ (sendBranchOrder o s).pending = s.pending
      ∧ (sendBranchOrder o s).unpinned = s.unpinned := by
  simp [sendBranchOrder]

@[simp] theorem orderStep_frame (first : Bool) (s : State) :
    (orderStep first s).ladder = s.ladder ∧ (orderStep first s).monitor = s.monitor ∧ (orderStep first s).fade = s.fade
      ∧ (orderStep first s).peer = s.peer ∧ (orderStep first s).rae = s.rae ∧ (orderStep first s).tae = s.tae
      ∧ (orderStep first s).capacity = s.capacity ∧ (orderStep first s).link = s.link ∧ (orderStep first s).control = s.control
      ∧ (orderStep first s).params = s.params ∧ (orderStep first s).sent = s.sent ∧ (orderStep first s).pending = s.pending
      ∧ (orderStep first s).unpinned = s.unpinned := by
  unfold orderStep; (repeat' split) <;> simp

@[simp] theorem selectorPrepared_frame (s : State) :
    (selectorPrepared s).ladder = s.ladder ∧ (selectorPrepared s).modem = s.modem ∧ (selectorPrepared s).monitor = s.monitor
      ∧ (selectorPrepared s).fade = s.fade ∧ (selectorPrepared s).peer = s.peer ∧ (selectorPrepared s).rae = s.rae
      ∧ (selectorPrepared s).tae = s.tae ∧ (selectorPrepared s).capacity = s.capacity ∧ (selectorPrepared s).link = s.link
      ∧ (selectorPrepared s).control = s.control ∧ (selectorPrepared s).params = s.params ∧ (selectorPrepared s).sent = s.sent
      ∧ (selectorPrepared s).pending = s.pending
      ∧ (selectorPrepared s).unpinned = s.unpinned := by
  simp [selectorPrepared]

@[simp] theorem selectorEvaluate_frame (s : State) :
    (selectorEvaluate s).ladder = s.ladder ∧ (selectorEvaluate s).monitor = s.monitor ∧ (selectorEvaluate s).fade = s.fade
      ∧ (selectorEvaluate s).peer = s.peer ∧ (selectorEvaluate s).rae = s.rae ∧ (selectorEvaluate s).tae = s.tae
      ∧ (selectorEvaluate s).capacity = s.capacity ∧ (selectorEvaluate s).link = s.link ∧ (selectorEvaluate s).params = s.params
      ∧ (selectorEvaluate s).sent = s.sent ∧ (selectorEvaluate s).pending = s.pending
      ∧ (selectorEvaluate s).unpinned = s.unpinned := by
  simp [selectorEvaluate]

@[simp] theorem evaluate_frame (s : State) :
    (evaluate s).ladder = s.ladder ∧ (evaluate s).monitor = s.monitor ∧ (evaluate s).fade = s.fade
      ∧ (evaluate s).peer = s.peer ∧ (evaluate s).tae = s.tae ∧ (evaluate s).capacity = s.capacity
      ∧ (evaluate s).link = s.link ∧ (evaluate s).params = s.params ∧ (evaluate s).sent = s.sent
      ∧ (evaluate s).pending = s.pending := by
  simp [evaluate]

/-! ### The Control Link and the Capacity Link (Frames.lean, CapacityLink.lean) -/

@[simp] theorem sendControl_frame (bytes : List Byte) (s : State) :
    (sendControl bytes s).ladder = s.ladder ∧ (sendControl bytes s).modem = s.modem ∧ (sendControl bytes s).monitor = s.monitor
      ∧ (sendControl bytes s).fade = s.fade ∧ (sendControl bytes s).selector = s.selector ∧ (sendControl bytes s).peer = s.peer
      ∧ (sendControl bytes s).rae = s.rae ∧ (sendControl bytes s).tae = s.tae ∧ (sendControl bytes s).capacity = s.capacity
      ∧ (sendControl bytes s).link = s.link ∧ (sendControl bytes s).control = s.control ∧ (sendControl bytes s).params = s.params
      ∧ (sendControl bytes s).pending = s.pending
      ∧ (sendControl bytes s).unpinned = s.unpinned := by
  simp [sendControl]

@[simp] theorem answerFailed_frame (frames : List HeldFrame) (s : State) :
    (answerFailed frames s).ladder = s.ladder ∧ (answerFailed frames s).modem = s.modem ∧ (answerFailed frames s).monitor = s.monitor
      ∧ (answerFailed frames s).fade = s.fade ∧ (answerFailed frames s).selector = s.selector ∧ (answerFailed frames s).peer = s.peer
      ∧ (answerFailed frames s).rae = s.rae ∧ (answerFailed frames s).tae = s.tae ∧ (answerFailed frames s).capacity = s.capacity
      ∧ (answerFailed frames s).link = s.link ∧ (answerFailed frames s).params = s.params ∧ (answerFailed frames s).pending = s.pending
      ∧ (answerFailed frames s).unpinned = s.unpinned := by
  induction frames generalizing s with
  | nil => simp [answerFailed]
  | cons x rest ih => cases x <;> simp [answerFailed, ih]

@[simp] theorem respond_frame (r : Response) (s : State) :
    (respond r s).ladder = s.ladder ∧ (respond r s).modem = s.modem ∧ (respond r s).monitor = s.monitor
      ∧ (respond r s).fade = s.fade ∧ (respond r s).selector = s.selector ∧ (respond r s).peer = s.peer
      ∧ (respond r s).rae = s.rae ∧ (respond r s).tae = s.tae ∧ (respond r s).capacity = s.capacity
      ∧ (respond r s).link = s.link ∧ (respond r s).params = s.params ∧ (respond r s).pending = s.pending
      ∧ (respond r s).unpinned = s.unpinned := by
  simp [respond]

@[simp] theorem failFrame_frame (bytes : List Byte) (s : State) :
    (failFrame bytes s).ladder = s.ladder ∧ (failFrame bytes s).modem = s.modem ∧ (failFrame bytes s).monitor = s.monitor
      ∧ (failFrame bytes s).fade = s.fade ∧ (failFrame bytes s).selector = s.selector ∧ (failFrame bytes s).peer = s.peer
      ∧ (failFrame bytes s).rae = s.rae ∧ (failFrame bytes s).tae = s.tae ∧ (failFrame bytes s).capacity = s.capacity
      ∧ (failFrame bytes s).link = s.link ∧ (failFrame bytes s).params = s.params ∧ (failFrame bytes s).pending = s.pending
      ∧ (failFrame bytes s).unpinned = s.unpinned := by
  unfold failFrame; (repeat' split) <;> simp

@[simp] theorem lossyByte_frame (b : Byte) (held : List Byte) (s : State) :
    (lossyByte b held s).ladder = s.ladder ∧ (lossyByte b held s).modem = s.modem ∧ (lossyByte b held s).monitor = s.monitor
      ∧ (lossyByte b held s).fade = s.fade ∧ (lossyByte b held s).selector = s.selector ∧ (lossyByte b held s).peer = s.peer
      ∧ (lossyByte b held s).rae = s.rae ∧ (lossyByte b held s).tae = s.tae ∧ (lossyByte b held s).capacity = s.capacity
      ∧ (lossyByte b held s).link = s.link ∧ (lossyByte b held s).params = s.params ∧ (lossyByte b held s).pending = s.pending
      ∧ (lossyByte b held s).unpinned = s.unpinned := by
  unfold lossyByte; (repeat' split) <;> simp

@[simp] theorem arriveByte_frame (b : Byte) (s : State) :
    (arriveByte b s).ladder = s.ladder ∧ (arriveByte b s).modem = s.modem ∧ (arriveByte b s).monitor = s.monitor
      ∧ (arriveByte b s).fade = s.fade ∧ (arriveByte b s).selector = s.selector ∧ (arriveByte b s).peer = s.peer
      ∧ (arriveByte b s).rae = s.rae ∧ (arriveByte b s).tae = s.tae ∧ (arriveByte b s).capacity = s.capacity
      ∧ (arriveByte b s).link = s.link ∧ (arriveByte b s).params = s.params ∧ (arriveByte b s).pending = s.pending
      ∧ (arriveByte b s).unpinned = s.unpinned := by
  unfold arriveByte; (repeat' split) <;> simp

@[simp] theorem frameStrobe_frame (s : State) :
    (frameStrobe s).ladder = s.ladder ∧ (frameStrobe s).modem = s.modem ∧ (frameStrobe s).monitor = s.monitor
      ∧ (frameStrobe s).fade = s.fade ∧ (frameStrobe s).selector = s.selector ∧ (frameStrobe s).peer = s.peer
      ∧ (frameStrobe s).rae = s.rae ∧ (frameStrobe s).tae = s.tae ∧ (frameStrobe s).capacity = s.capacity
      ∧ (frameStrobe s).link = s.link ∧ (frameStrobe s).params = s.params ∧ (frameStrobe s).pending = s.pending
      ∧ (frameStrobe s).unpinned = s.unpinned := by
  unfold frameStrobe; (repeat' split) <;> simp

@[simp] theorem drainAnswer_frame (x : DrainResult) (p : BitVec 4) (s : State) :
    (drainAnswer x p s).ladder = s.ladder ∧ (drainAnswer x p s).modem = s.modem ∧ (drainAnswer x p s).monitor = s.monitor
      ∧ (drainAnswer x p s).fade = s.fade ∧ (drainAnswer x p s).selector = s.selector ∧ (drainAnswer x p s).peer = s.peer
      ∧ (drainAnswer x p s).rae = s.rae ∧ (drainAnswer x p s).tae = s.tae ∧ (drainAnswer x p s).link = s.link
      ∧ (drainAnswer x p s).control = s.control ∧ (drainAnswer x p s).params = s.params ∧ (drainAnswer x p s).pending = s.pending
      ∧ (drainAnswer x p s).unpinned = s.unpinned := by
  simp [drainAnswer]

@[simp] theorem answerLate_frame (p : BitVec 4) (s : State) :
    (answerLate p s).ladder = s.ladder ∧ (answerLate p s).modem = s.modem ∧ (answerLate p s).monitor = s.monitor
      ∧ (answerLate p s).fade = s.fade ∧ (answerLate p s).selector = s.selector ∧ (answerLate p s).peer = s.peer
      ∧ (answerLate p s).rae = s.rae ∧ (answerLate p s).link = s.link ∧ (answerLate p s).control = s.control
      ∧ (answerLate p s).params = s.params ∧ (answerLate p s).pending = s.pending
      ∧ (answerLate p s).unpinned = s.unpinned := by
  simp [answerLate]

@[simp] theorem answerAccepted_frame (p : BitVec 4) (s : State) :
    (answerAccepted p s).ladder = s.ladder ∧ (answerAccepted p s).modem = s.modem ∧ (answerAccepted p s).monitor = s.monitor
      ∧ (answerAccepted p s).fade = s.fade ∧ (answerAccepted p s).selector = s.selector ∧ (answerAccepted p s).peer = s.peer
      ∧ (answerAccepted p s).rae = s.rae ∧ (answerAccepted p s).link = s.link ∧ (answerAccepted p s).control = s.control
      ∧ (answerAccepted p s).params = s.params ∧ (answerAccepted p s).pending = s.pending
      ∧ (answerAccepted p s).unpinned = s.unpinned := by
  simp [answerAccepted]

@[simp] theorem handleDrainReady_frame (p : BitVec 4) (s : State) :
    (handleDrainReady p s).ladder = s.ladder ∧ (handleDrainReady p s).modem = s.modem ∧ (handleDrainReady p s).monitor = s.monitor
      ∧ (handleDrainReady p s).fade = s.fade ∧ (handleDrainReady p s).selector = s.selector ∧ (handleDrainReady p s).peer = s.peer
      ∧ (handleDrainReady p s).rae = s.rae ∧ (handleDrainReady p s).link = s.link ∧ (handleDrainReady p s).control = s.control
      ∧ (handleDrainReady p s).params = s.params ∧ (handleDrainReady p s).pending = s.pending
      ∧ (handleDrainReady p s).unpinned = s.unpinned := by
  unfold handleDrainReady; (repeat' split) <;> simp

@[simp] theorem startRead_frame (s : State) :
    (startRead s).ladder = s.ladder ∧ (startRead s).modem = s.modem ∧ (startRead s).monitor = s.monitor
      ∧ (startRead s).fade = s.fade ∧ (startRead s).selector = s.selector ∧ (startRead s).peer = s.peer
      ∧ (startRead s).rae = s.rae ∧ (startRead s).tae = s.tae ∧ (startRead s).link = s.link
      ∧ (startRead s).control = s.control ∧ (startRead s).params = s.params ∧ (startRead s).pending = s.pending
      ∧ (startRead s).unpinned = s.unpinned := by
  unfold startRead; (repeat' split) <;> simp

@[simp] theorem abortRead_frame (n : Nat) (s : State) :
    (abortRead n s).ladder = s.ladder ∧ (abortRead n s).modem = s.modem ∧ (abortRead n s).monitor = s.monitor
      ∧ (abortRead n s).fade = s.fade ∧ (abortRead n s).selector = s.selector ∧ (abortRead n s).peer = s.peer
      ∧ (abortRead n s).rae = s.rae ∧ (abortRead n s).tae = s.tae ∧ (abortRead n s).capacity = s.capacity
      ∧ (abortRead n s).link = s.link ∧ (abortRead n s).control = s.control ∧ (abortRead n s).params = s.params
      ∧ (abortRead n s).pending = s.pending
      ∧ (abortRead n s).unpinned = s.unpinned := by
  unfold abortRead; (repeat' split) <;> simp

@[simp] theorem sendReplies_frame (rs : List Reply) (s : State) :
    (sendReplies rs s).ladder = s.ladder ∧ (sendReplies rs s).modem = s.modem ∧ (sendReplies rs s).monitor = s.monitor
      ∧ (sendReplies rs s).fade = s.fade ∧ (sendReplies rs s).selector = s.selector ∧ (sendReplies rs s).peer = s.peer
      ∧ (sendReplies rs s).rae = s.rae ∧ (sendReplies rs s).tae = s.tae ∧ (sendReplies rs s).capacity = s.capacity
      ∧ (sendReplies rs s).link = s.link ∧ (sendReplies rs s).control = s.control ∧ (sendReplies rs s).params = s.params
      ∧ (sendReplies rs s).pending = s.pending
      ∧ (sendReplies rs s).unpinned = s.unpinned := by
  induction rs generalizing s with
  | nil => simp [sendReplies]
  | cons x rest ih => simpa [sendReplies] using ih (sendCapacity x.bytes s)

@[simp] theorem sendAlert_frame (x : Option CapacityAlert) (s : State) :
    (sendAlert x s).ladder = s.ladder ∧ (sendAlert x s).modem = s.modem ∧ (sendAlert x s).monitor = s.monitor
      ∧ (sendAlert x s).fade = s.fade ∧ (sendAlert x s).selector = s.selector ∧ (sendAlert x s).peer = s.peer
      ∧ (sendAlert x s).rae = s.rae ∧ (sendAlert x s).tae = s.tae ∧ (sendAlert x s).capacity = s.capacity
      ∧ (sendAlert x s).link = s.link ∧ (sendAlert x s).control = s.control ∧ (sendAlert x s).params = s.params
      ∧ (sendAlert x s).pending = s.pending
      ∧ (sendAlert x s).unpinned = s.unpinned := by
  unfold sendAlert; (repeat' split) <;> simp

@[simp] theorem endRead_frame (b : Buffer) (s : State) :
    (endRead b s).ladder = s.ladder ∧ (endRead b s).modem = s.modem ∧ (endRead b s).monitor = s.monitor
      ∧ (endRead b s).fade = s.fade ∧ (endRead b s).selector = s.selector ∧ (endRead b s).peer = s.peer
      ∧ (endRead b s).rae = s.rae ∧ (endRead b s).tae = s.tae ∧ (endRead b s).link = s.link
      ∧ (endRead b s).control = s.control ∧ (endRead b s).params = s.params ∧ (endRead b s).pending = s.pending
      ∧ (endRead b s).unpinned = s.unpinned := by
  simp [endRead]

@[simp] theorem capacityReset_frame (n : Nat) (s : State) :
    (capacityReset n s).ladder = s.ladder ∧ (capacityReset n s).modem = s.modem ∧ (capacityReset n s).monitor = s.monitor
      ∧ (capacityReset n s).fade = s.fade ∧ (capacityReset n s).selector = s.selector ∧ (capacityReset n s).peer = s.peer
      ∧ (capacityReset n s).rae = s.rae ∧ (capacityReset n s).tae = s.tae ∧ (capacityReset n s).link = s.link
      ∧ (capacityReset n s).control = s.control ∧ (capacityReset n s).params = s.params ∧ (capacityReset n s).pending = s.pending
      ∧ (capacityReset n s).unpinned = s.unpinned := by
  simp [capacityReset]

end Sys2Proof.Machine
end

