-- ==== Sys2Proof/Laws/Ops.lean ====
section
/-! SUPPORT. What each shared operation does to the block it changes, field by field, so that a proof cites these
lemmas and Frames.lean instead of unfolding the operation. -/

namespace Sys2Proof.Machine

/-! ### Operand arithmetic (Operands.lean) -/

theorem atOrAfter_iff (m n : Superframe) : atOrAfter m n = true ↔ (m - n).toNat < 32768 := by simp [atOrAfter]

theorem isAfter_iff (m n : Superframe) : isAfter m n = true ↔ (m - n).toNat < 32768 ∧ m ≠ n := by
  simp [isAfter, atOrAfter]

theorem isAfter_plusLead (n : Superframe) (k : Nat) (h : 0 < k) (h' : k < 32768) :
    isAfter (plusLead n k) n = true := by
  rw [isAfter_iff]
  have : (plusLead n k - n).toNat = k := by
    simp only [plusLead, BitVec.toNat_sub, BitVec.toNat_add, BitVec.toNat_ofNat]
    have := n.isLt
    omega
  refine ⟨by omega, fun e => ?_⟩
  rw [e] at this
  simp at this
  omega

theorem clampInt_eq (lo hi x : Int) (h : lo ≤ hi) : clampInt lo hi x = max lo (min hi x) := by
  unfold clampInt; split <;> [omega; (split <;> omega)]

theorem clampNat_eq (hi x : Nat) : clampNat hi x = min hi x := by unfold clampNat; split <;> omega

theorem succSat_eq (limit n : Nat) (h : n ≤ limit) : succSat limit n = min limit (n + 1) := by
  unfold succSat; split <;> omega

theorem succSat_le (limit n : Nat) : succSat limit n ≤ limit := by unfold succSat; split <;> omega

theorem pushRing_length {α : Type} (size : Nat) (ring : List α) (x : α) :
    (pushRing size ring x).length = min size (ring.length + 1) := by
  simp [pushRing]; omega

/-! ### Events (Flags.lean) -/

@[simp] theorem raise_events (e : Event) (s : State) :
    (raise e s).control.events = s.control.events ||| e.flag := rfl
@[simp] theorem raise_attention (e : Event) (s : State) :
    (raise e s).control.attention = attentionOf (s.control.events ||| e.flag) s.control.mask := rfl
@[simp] theorem raise_reported (e : Event) (s : State) :
    (raise e s).control.reported = s.control.reported.map (fun r => r &&& ~~~e.flag) := rfl
@[simp] theorem raise_mask (e : Event) (s : State) : (raise e s).control.mask = s.control.mask := rfl
@[simp] theorem raise_frames (e : Event) (s : State) : (raise e s).control.frames = s.control.frames := rfl
@[simp] theorem raise_incomplete (e : Event) (s : State) :
    (raise e s).control.incomplete = s.control.incomplete := rfl
@[simp] theorem raise_lost (e : Event) (s : State) : (raise e s).control.lost = s.control.lost := rfl
@[simp] theorem raise_frameStrobes (e : Event) (s : State) :
    (raise e s).control.frameStrobes = s.control.frameStrobes := rfl
@[simp] theorem raise_resetPending (e : Event) (s : State) :
    (raise e s).control.resetPending = s.control.resetPending := rfl

theorem raiseIf_cases (b : Bool) (e : Event) (s : State) :
    (b = true ∧ raiseIf b e s = raise e s) ∨ (b = false ∧ raiseIf b e s = s) := by
  cases b <;> simp [raiseIf]

@[simp] theorem raiseIf_events (b : Bool) (e : Event) (s : State) :
    (raiseIf b e s).control.events = s.control.events ||| (if b then e.flag else 0#21) := by
  cases b <;> simp [raiseIf]
@[simp] theorem raiseIf_mask (b : Bool) (e : Event) (s : State) :
    (raiseIf b e s).control.mask = s.control.mask := by cases b <;> simp [raiseIf]
@[simp] theorem raiseIf_frames (b : Bool) (e : Event) (s : State) :
    (raiseIf b e s).control.frames = s.control.frames := by cases b <;> simp [raiseIf]
@[simp] theorem raiseIf_incomplete (b : Bool) (e : Event) (s : State) :
    (raiseIf b e s).control.incomplete = s.control.incomplete := by cases b <;> simp [raiseIf]
@[simp] theorem raiseIf_lost (b : Bool) (e : Event) (s : State) :
    (raiseIf b e s).control.lost = s.control.lost := by cases b <;> simp [raiseIf]
@[simp] theorem raiseIf_frameStrobes (b : Bool) (e : Event) (s : State) :
    (raiseIf b e s).control.frameStrobes = s.control.frameStrobes := by cases b <;> simp [raiseIf]
@[simp] theorem raiseIf_resetPending (b : Bool) (e : Event) (s : State) :
    (raiseIf b e s).control.resetPending = s.control.resetPending := by cases b <;> simp [raiseIf]

@[simp] theorem afterRaising_none (k : ControlLink) : k.afterRaising 0#21 = k := by simp [ControlLink.afterRaising]

theorem Event.flag_ne_zero (e : Event) : e.flag ≠ 0#21 := by cases e <;> decide

/-- Raising one event is raising the set that holds it. -/
theorem raise_control (e : Event) (s : State) : (raise e s).control = s.control.afterRaising e.flag := by
  rw [ControlLink.afterRaising, if_neg e.flag_ne_zero]; rfl

theorem raiseIf_control (b : Bool) (e : Event) (s : State) :
    (raiseIf b e s).control = s.control.afterRaising (if b then e.flag else 0#21) := by
  cases b <;> simp [raiseIf, raise_control]

/-- Raising two sets in a row is raising their union, in either order. -/
theorem afterRaising_afterRaising (k : ControlLink) (x y : EventSet) :
    (k.afterRaising x).afterRaising y = k.afterRaising (x ||| y) := by
  by_cases hx : x = 0#21
  · simp [hx]
  · by_cases hy : y = 0#21
    · simp [hy]
    · have hxy : x ||| y ≠ 0#21 := by simp [BitVec.or_eq_zero_iff, hx]
      simp [ControlLink.afterRaising, hx, hy, hxy, BitVec.or_assoc, BitVec.not_or, BitVec.and_assoc,
        Function.comp_def]

@[simp] theorem afterRaising_mask (k : ControlLink) (x : EventSet) : (k.afterRaising x).mask = k.mask := by
  unfold ControlLink.afterRaising; split <;> rfl
@[simp] theorem afterRaising_events (k : ControlLink) (x : EventSet) :
    (k.afterRaising x).events = k.events ||| x := by
  unfold ControlLink.afterRaising; split <;> simp_all

/-! ### The Modem Links (Ops.lean) -/

@[simp] theorem ModemLink.issue_up (l : ModemLink) (m : ModemMessage) : (l.issue m).up = l.up := by
  unfold ModemLink.issue; split <;> rfl

@[simp] theorem issueBoth_modem (m : ModemMessage) (s : State) :
    (issueBoth m s).modem = ⟨s.modem.a.issue m, s.modem.b.issue m⟩ := rfl

theorem issueBoth_get (m : ModemMessage) (s : State) (l : Branch) :
    (issueBoth m s).modem.get l = (s.modem.get l).issue m := by cases l <;> rfl

@[simp] theorem sendReceiveOrder_modem (start : Option Superframe) (p : Nat) (s : State) :
    (sendReceiveOrder start p s).modem
      = ⟨s.modem.a.issue (receiveOrder start p s), s.modem.b.issue (receiveOrder start p s)⟩ := rfl

/-! ### The Capacity Link (Ops.lean) -/

@[simp] theorem CapacityLink.write_newest (k : CapacityLink) (b : Buffer) (r : CapacityRecord) :
    (k.write b r).newest = k.newest := by cases b <;> rfl
@[simp] theorem CapacityLink.write_held (k : CapacityLink) (b : Buffer) (r : CapacityRecord) :
    (k.write b r).held = k.held := by cases b <;> rfl
@[simp] theorem CapacityLink.write_framing (k : CapacityLink) (b : Buffer) (r : CapacityRecord) :
    (k.write b r).framing = k.framing := by cases b <;> rfl
@[simp] theorem CapacityLink.write_replies (k : CapacityLink) (b : Buffer) (r : CapacityRecord) :
    (k.write b r).replies = k.replies := by cases b <;> rfl
@[simp] theorem CapacityLink.write_alert (k : CapacityLink) (b : Buffer) (r : CapacityRecord) :
    (k.write b r).alert = k.alert := by cases b <;> rfl
@[simp] theorem CapacityLink.buffer_write_same (k : CapacityLink) (b : Buffer) (r : CapacityRecord) :
    (k.write b r).buffer b = r := by cases b <;> rfl
theorem CapacityLink.buffer_write_other (k : CapacityLink) {b c : Buffer} (r : CapacityRecord) (h : c ≠ b) :
    (k.write b r).buffer c = k.buffer c := by cases b <;> cases c <;> first | rfl | exact absurd rfl h

@[simp] theorem publish_generation (s : State) :
    (publish s).capacity.generation = s.capacity.generation + 1 := rfl
@[simp] theorem publish_newest (s : State) : (publish s).capacity.newest = s.capacity.choice := rfl
@[simp] theorem publish_held (s : State) : (publish s).capacity.held = s.capacity.held :=
  CapacityLink.write_held ..
@[simp] theorem publish_framing (s : State) : (publish s).capacity.framing = s.capacity.framing :=
  CapacityLink.write_framing ..
@[simp] theorem publish_replies (s : State) : (publish s).capacity.replies = s.capacity.replies :=
  CapacityLink.write_replies ..
@[simp] theorem publish_alert (s : State) : (publish s).capacity.alert = s.capacity.alert :=
  CapacityLink.write_alert ..
@[simp] theorem publish_record (s : State) :
    (publish s).capacity.buffer s.capacity.choice = recordNow (s.capacity.generation + 1) s :=
  CapacityLink.buffer_write_same s.capacity s.capacity.choice _

@[simp] theorem sendCapacity_sent (bytes : List Byte) (s : State) :
    (sendCapacity bytes s).sent = { s.sent with capacity := s.sent.capacity ++ [bytes] } := rfl

/-- A reply leaves at once or joins the reply list (R148, R150). -/
theorem reply_cases (r : Reply) (s : State) :
    (s.capacity.held = none ∧ reply r s = sendCapacity r.bytes s)
      ∨ (s.capacity.held ≠ none
        ∧ reply r s = s.withCapacity { s.capacity with replies := s.capacity.replies ++ [r] }) := by
  cases h : s.capacity.held <;> simp [reply, h]

/-! ### The engines (Receive.lean, Transmit.lean) -/

@[simp] theorem becomeSteady_tae (s : State) : (becomeSteady s).tae = { s.tae with state := .steady } := rfl
@[simp] theorem setAttenuation_tae (a : Nat) (s : State) :
    (setAttenuation a s).tae = { s.tae with attenuation := a } := rfl
@[simp] theorem dropOverflow_rae (s : State) :
    (dropOverflow s).rae = { s.rae with overflowNoted := false } := rfl
@[simp] theorem evaluationDecides_rae (s : State) :
    (evaluationDecides s).rae = decideRequest (evaluationBegins s) := rfl

/-- A commit, less its alert, with *n*_last set (R129). -/
theorem recordCommit_tae (p lead : Nat) (confirmed emergency : Bool) (s : State) (n : Superframe)
    (h : s.tae.lastSlot = some n) :
    (recordCommit p lead confirmed emergency s).tae =
      { s.tae with
        state := .committed ⟨p, plusLead n lead⟩
        counters := s.tae.counters.countCommit (decide (p < s.tae.c)) confirmed emergency } := by
  simp [recordCommit, h]

/-- With *n*_last unset no commit is made (R119). -/
theorem recordCommit_unset (p lead : Nat) (confirmed emergency : Bool) (s : State)
    (h : s.tae.lastSlot = none) : recordCommit p lead confirmed emergency s = s := by
  simp [recordCommit, h]

/-! ### A change of link state (Supervisor.lean) -/

@[simp] theorem changeLink_events (new : LinkState) (act : State → State) (s : State) :
    (changeLink new act s).control.events = (act (s.withLink new)).control.events ||| Event.stateChanged.flag := by
  simp [changeLink]

theorem changeLink_control (new : LinkState) (act : State → State) (s : State) :
    (changeLink new act s).control = (act (s.withLink new)).control.afterRaising Event.stateChanged.flag := by
  simp [changeLink, raise_control]

@[simp] theorem changeLink_generation (new : LinkState) (act : State → State) (s : State) :
    (changeLink new act s).capacity.generation = (act (s.withLink new)).capacity.generation + 1 := by
  simp [changeLink]

/-! ### The Control Link (Frames.lean) -/

theorem onTurn_of_some {c : Instr} {act : State → State} {s t : State} (h : turn c s = some t) :
    onTurn c act s = act t := by simp [onTurn, h]

theorem onTurn_of_none {c : Instr} {act : State → State} {s : State} (h : turn c s = none) :
    onTurn c act s = s := by simp [onTurn, h]

/-- What a frame that fails can do: it is answered at once, or it waits to be. -/
theorem failFrame_cases (bytes : List Byte) (s : State) :
    (s.control.frames = [] ∧ s.control.resetPending = false
        ∧ failFrame bytes s = respond .refusedFormat
          (s.withControl { s.control with incomplete := [], lost := none, frameStrobes := 0 }))
      ∨ ((s.control.frames ≠ [] ∨ s.control.resetPending = true)
        ∧ failFrame bytes s = s.withControl
          { s.control with
            frames := s.control.frames ++ [.failed bytes]
            incomplete := []
            lost := none
            frameStrobes := 0 }) := by
  by_cases h : s.control.frames = [] ∧ s.control.resetPending = false
  · exact .inl ⟨h.1, h.2, by simp [failFrame, h]⟩
  · refine .inr ⟨?_, by simp only [failFrame, h, if_false]⟩
    by_cases hf : s.control.frames = []
    · exact .inr (by simpa [hf] using h)
    · exact .inl hf

/-- What a byte of a frame that loses bytes can do: the frame goes on, or it has ended and fails. -/
theorem lossyByte_cases (b : Byte) (held : List Byte) (s : State) :
    (extentAfter (s.control.lost <|> heldExtent s.control.incomplete) b = .remaining 0
        ∧ lossyByte b held s = failFrame held s)
      ∨ ∃ x, x ≠ .remaining 0 ∧ x = extentAfter (s.control.lost <|> heldExtent s.control.incomplete) b
        ∧ lossyByte b held s
          = s.withControl { s.control with incomplete := held, lost := some x, frameStrobes := 0 } := by
  unfold lossyByte
  split
  · exact .inl ⟨‹_›, rfl⟩
  · exact .inr ⟨_, ‹_›, rfl, rfl⟩

/-- What an arriving byte can do: it is discarded at a full store, or joins a frame that has lost one, or joins a
frame of which every byte is held. -/
theorem arriveByte_cases (b : Byte) (s : State) :
    (512 ≤ s.control.stored ∧ arriveByte b s = lossyByte b s.control.incomplete s)
      ∨ (s.control.stored < 512 ∧ s.control.lost ≠ none
        ∧ arriveByte b s = lossyByte b (s.control.incomplete ++ [b]) s)
      ∨ (s.control.stored < 512 ∧ s.control.lost = none
        ∧ arriveByte b s = s.withControl (s.control.takeByte b)) := by
  unfold arriveByte Config.inputStoreSize
  split
  · exact .inl ⟨‹_›, rfl⟩
  · rename_i h
    cases hl : s.control.lost with
    | some x => exact .inr (.inl ⟨by omega, by simp, by simp⟩)
    | none => exact .inr (.inr ⟨by omega, rfl, by simp⟩)

end Sys2Proof.Machine
end

