-- ==== Sys2Proof/WellFormed.lean ====
section
/-! DEFINITION. Which commands are well formed: an arrival that its link's frame check hands on (R183), and an
UNKNOWN_COMMAND frame that is complete and fails a check of R166. An ill-formed arrival is discarded by its
link interface and has no effect; every other command is well formed by the widths of its operands. -/

namespace Sys2Proof

open Machine

/-- The command is one that its link hands to a block. -/
def Instr.wellFormed : Instr → Bool
  | .branchReport _ m => (receiveReport m).isSome
  | .burstOverflow _ m => (receiveReport m).isSome
  | .longFade _ m => (receiveReport m).isSome
  | .fastFadingOff _ m => (receiveReport m).isSome
  | .foreignSignal _ m => (receiveReport m).isSome
  | .peerUp _ m => (receiveReport m).isSome
  | .echoFault _ m => (receiveReport m).isSome
  | .headerFollow _ m => (receiveReport m).isSome
  | .transmitSlotRequest l m => (receiveSlotRequest l m).isSome
  | .capacityRead m => receiveCapacityRead m
  | .drainReady m => (receiveDrainReady m).isSome
  | .unknownCommand f =>
    frameComplete f &&
      match decodeFrame f with
      | .refused _ => true
      | .command _ => false
  | .powerOnReset => true
  | .softReset => true
  | .softResetTakesEffect _ => true
  | .modemLinkDown _ => true
  | .modemLinkUp _ => true
  | .modemMessageSent _ => true
  | .reportAgeCount => true
  | .evaluation => true
  | .branchSwitched => true
  | .upshiftDwellReached => true
  | .requestStalled => true
  | .silenceCount => true
  | .peerTimeout => true
  | .taeStrobe => true
  | .drainTimeout => true
  | .slewStep => true
  | .capacityLinkUp => true
  | .capacityLinkReset _ => true
  | .endOfRead => true
  | .frameStrobeCount => true
  | .frameTimeout => true
  | .readStatus => true
  | .clearEvents => true
  | .setEventMask _ => true
  | .readCounters => true
  | .clearCounters => true
  | .setParameter _ _ => true
  | .readParameter _ => true
  | .writeLadderEntry _ _ => true
  | .readLadderEntry _ _ => true
  | .setLadderCount _ => true
  | .commitLadder => true
  | .revertLadder => true
  | .start => true
  | .stop => true
  | .hold => true
  | .resume => true
  | .pin _ => true
  | .unpin => true
  | .excludeBranch _ => true
  | .includeBranch _ => true
  | .controlLinkByteArrival _ => true

end Sys2Proof
end

