-- ==== Sys2Proof/Tests/Slice0.lean ====
section
/-! SUPPORT. Tests: the smoke test of well-formedness, worked examples whose results the manual prints, and for every
statement that has hypotheses a state and operands that meet them (`test_witness_…`). -/

namespace Sys2Proof.Tests

open Sys2Proof Sys2Proof.Machine

/-! ### Helpers -/

/-- The state a command leaves. -/
def after (c : Instr) (s : State) : State :=
  match exec c s with
  | .next t => t
  | _ => s

/-- A message with its last byte changed. -/
def spoil (m : List Byte) : List Byte := m.dropLast ++ [m.getLastD 0#8 ^^^ 1#8]

/-- A locked report with a header and no word. -/
def plain (number : Superframe) (profile : Nat) : Report := ⟨true, 262, -500, 0, some ⟨number, profile⟩, none⟩

/-- The same report unlocked, without a header. -/
def unlockedReport : Report := ⟨false, 0, -900, 0, none, none⟩

/-- A word of the far end that agrees with `base`'s hop and digest. -/
def word (echo : Option Byte) (request : Request) (commit : Option Commit) (digest : BitVec 16) : OverheadWord :=
  ⟨0#20, true, echo, commit, 7#8, request, .max, 0, 12, digest⟩

/-- A locked report carrying a word. -/
def carrying (w : List Byte) : Report := ⟨true, 262, -500, 0, some ⟨100#16, 0⟩, some w⟩

/-- A report with every field at the end of its range. -/
def widest : Report := ⟨true, 1023, -32768, 65535, some ⟨65535#16, 15⟩, some (List.replicate 14 0#8)⟩

/-- Four entries of the reference ladder, entry 2 disabled. -/
def four : Ladder :=
  ⟨4, ((((Vector.replicate 12 Entry.blank).set 0 ⟨true, 0#4, 1#3, 42000, 70, 90, 0⟩).set 1
    ⟨true, 2#4, 1#3, 84000, 135, 160, 100⟩).set 2 ⟨false, 3#4, 1#3, 105000, 165, 190, 100⟩).set 3
    ⟨true, 4#4, 1#3, 126000, 195, 220, 100⟩⟩

/-- A loaded part in OFFLINE with every link UP. -/
def base : State :=
  { State.reset with
    ladder := ⟨four, four, four.digest⟩
    modem := ⟨⟨true, []⟩, ⟨true, []⟩⟩
    capacity := .resetWith true }

/-- The peer channel UP, with the local digest. -/
def peerUp : PeerChannel :=
  { PeerChannel.reset with
    state := .up
    verify := 8
    lastFar := some 10#16
    ring := [90#8]
    fields := ⟨true, some 5#8, none, ⟨0, .none⟩, .hold, some 0, 10, some four.digest⟩ }

/-- A part in a link state, its channel UP, its last slot 500, its newest record current. -/
def live (l : LinkState) : State :=
  let s := { base with link := l, peer := peerUp, tae := { Tae.resetAt 0 with lastSlot := some 500#16 } }
  { s with capacity := publish s |>.capacity }

/-- The same with a TAE state at profile `c`. -/
def sending (l : LinkState) (c : Nat) (k : TaeState) : State :=
  let s := live l
  { s with tae := { s.tae with c := c, state := k } }

/-- The same with a RAE at profile `e` and a pending commit. -/
def receiving (l : LinkState) (e : Nat) (k : Option Commit) : State :=
  let s := live l
  { s with rae := { s.rae with e := e, commit := k } }

/-- A branch that is LOCKED with filtered SNR `snr`. -/
def locked (snr : Nat) (rsl : Int) : Monitor :=
  { Monitor.reset with status := .locked, filter := some (64 * snr), primed := true, rsl := some rsl, age := 1 }

/-- The same in a mode of the selector, with filtered values on both branches. -/
def selecting (mode : DiversityMode) (a b : Nat) : State :=
  { live .adaptive with
    monitor := ⟨locked a (-512), locked b (-538)⟩
    selector := { Selector.reset with mode := some mode, lastOrder := some .a } }

/-- A CAPACITY READ in flight of the newest record, with `n` replies waiting. -/
def reading (n : Nat) (s : State) : State :=
  { s with capacity := { s.capacity with
      held := some s.capacity.newest, replies := List.replicate n .busy } }

/-- Frames that wait in the input store. -/
def waiting (frames : List HeldFrame) (s : State) : State :=
  { s with control := { s.control with frames := frames } }

/-- An incomplete frame in the input store, `n` strobes old. -/
def halfway (n : Nat) (s : State) : State :=
  { s with control := { s.control with incomplete := [0x20#8], frameStrobes := n } }

/-- An input store that holds `n` bytes of frames that await their turn. -/
def nearlyFull (n : Nat) : State :=
  waiting [.complete (List.replicate 256 0#8), .complete (List.replicate (n - 256) 0#8)] base

/-- An incomplete frame that has lost a byte and has come so far. -/
def lossy (x : Extent) (s : State) : State :=
  { s with control := { s.control with lost := some x } }

/-- The frame of START. -/
def startFrame : List Byte := controlFrame 0x20#8 []

/-! ### Well-formedness refuses -/

theorem test_illformed_shortReport : (Instr.branchReport .a [1#8, 2#8]).wellFormed = false := by decide +kernel
theorem test_illformed_reportCrc :
    (Instr.branchReport .a (spoil (plain 1#16 0).message)).wellFormed = false := by decide +kernel
theorem test_illformed_reportType :
    (Instr.burstOverflow .a (slotRequestMessage 1#16)).wellFormed = false := by decide +kernel
theorem test_illformed_reportLength :
    (Instr.headerFollow .a (sealMessage 1#8 (List.replicate 10 0#8))).wellFormed = false := by decide +kernel
theorem test_illformed_wordFlag :
    (Instr.peerUp .a (sealMessage 1#8 (0x20#8 :: List.replicate 8 0#8))).wellFormed = false := by decide +kernel
theorem test_illformed_slotOnB :
    (Instr.transmitSlotRequest .b (slotRequestMessage 1#16)).wellFormed = false := by decide +kernel
theorem test_illformed_slotLength :
    (Instr.transmitSlotRequest .a (sealMessage 2#8 [1#8])).wellFormed = false := by decide +kernel
theorem test_illformed_readBody : (Instr.capacityRead (sealMessage 0x21#8 [0#8])).wellFormed = false := by
  decide +kernel
theorem test_illformed_drainCrc : (Instr.drainReady (spoil (drainReadyMessage 2#4))).wellFormed = false := by
  decide +kernel
theorem test_illformed_unknownIncomplete : (Instr.unknownCommand [0x20#8, 1#8, 2#8]).wellFormed = false := by
  decide +kernel
theorem test_illformed_unknownKnown : (Instr.unknownCommand startFrame).wellFormed = false := by decide +kernel
theorem test_wellformed_report : (Instr.branchReport .b (plain 1#16 0).message).wellFormed = true := by
  decide +kernel

/-! ### Worked examples of the manual -/

/-- Section 2: with *s* = 8, *F*_now = 248 and *F*_ago = 262, the slope is −18. -/
theorem test_slope :
    { Monitor.reset with ring := [262, 0, 0, 0, 0, 0, 0, 0, 248] : Monitor }.slope 8 = -18 := by decide +kernel
/-- Section 4.6: 248 and 212 combine to 263; the boundary rows of R58. -/
theorem test_combined :
    combinedSnr 248 212 = 263 ∧ combinedSnr 250 245 = 275 ∧ combinedSnr 106 300 = 301 ∧ combinedSnr 300 105 = 300
      ∧ combinedSnr 490 488 = 500 := by decide
/-- R93: SNR 263, slope −18 and *H* = 40 predict 191; slope −500 and *H* = 255 predict 0. -/
theorem test_predict :
    predict 40 ⟨263, -18, -512, .both⟩ = 191 ∧ predict 255 ⟨500, -500, -512, .both⟩ = 0 := by decide
/-- R181: the CRC-16 of the digits 1 to 9 is 29B1 hex. -/
theorem test_crc : crc16 ((List.range 9).map (fun i => BitVec.ofNat 8 (0x31 + i))) = 0x29B1#16 := by decide +kernel
/-- Section 4.9, evaluation 2 of the SELECT table: row 2 counts, and no order is sent. -/
theorem test_select_counts :
    (selectorEvaluate (selecting .select 238 260)).selector.dwell = 1
      ∧ (selectorEvaluate (selecting .select 238 260)).modem = (live .adaptive).modem := by decide +kernel
/-- Section 4.9, evaluation 9: the active branch is lost, and the selector switches at once. -/
theorem test_select_lost :
    (selectorEvaluate { selecting .select 230 0 with
        selector := { (selecting .select 230 0).selector with active := .b, excluded := ⟨false, true⟩ } }).selector.active
      = .a := by decide +kernel
/-- R2: the comparison wraps. -/
theorem test_superframes_wrap :
    isAfter 3#16 65530#16 = true ∧ isAfter 65530#16 3#16 = false ∧ atOrAfter 7#16 7#16 = true := by decide
/-- R27 and R26: the first locked report primes the filter at 64·*r*. -/
theorem test_report_primes :
    ((after (.branchReport .a (plain 1#16 0).message) base).monitor.a.filter, base.monitor.a.filter)
      = (some (64 * 262), none) := by decide +kernel
/-- R81: the challenge that follows 90 is 37·90 + 11 mod 256 = 13. -/
theorem test_challenge_follows : nextChallengeAfter 90#8 = 13#8 := by decide
/-- R190: a START frame that arrives byte by byte is held as one complete frame. -/
theorem test_bytes_form_start :
    (startFrame.foldl (fun s b => after (.controlLinkByteArrival b) s) base).control.frames = [.complete startFrame] := by
  decide +kernel
/-- R166, R167: with room for three bytes, the fourth byte of a START frame is discarded, and the frame fails at its end;
with no room at all it fails as well, and the next byte begins a new frame. -/
theorem test_lost_bytes_fail :
    (startFrame.foldl (fun s b => after (.controlLinkByteArrival b) s) (nearlyFull 509)).control.frames
        = (nearlyFull 509).control.frames ++ [.failed (startFrame.take 3)]
      ∧ (startFrame.foldl (fun s b => after (.controlLinkByteArrival b) s) (nearlyFull 512)).control.frames
        = (nearlyFull 512).control.frames ++ [.failed []]
      ∧ (startFrame.foldl (fun s b => after (.controlLinkByteArrival b) s) (nearlyFull 512)).control.lost = none := by
  decide +kernel
/-- R156: START from that frame enters ACQUIRE, and publishes generation 1. -/
theorem test_start_taken :
    (after .start (waiting [.complete startFrame] base)).link = .acquire .starting
      ∧ (after .start (waiting [.complete startFrame] base)).capacity.generation = 1#16 := by decide +kernel

/-! ### Witnesses: the Control Link -/

theorem test_witness_commandFrames : commandFrame .start = some startFrame := by decide +kernel

theorem test_witness_framesJudged :
    0xCC#8 ++ 0x9C#8 ≠ crc16 [0x20#8, 0#8] ∧ startFrame = [0x20#8, 0#8] ++ be16 (crc16 [0x20#8, 0#8])
      ∧ commandBody .start = some (0x20#8, []) := by decide +kernel

theorem test_witness_framesUnknown : ∀ c x, commandBody c ≠ some (0xEE#8, x) := by
  intro c x; cases c <;> simp [commandBody]

theorem test_witness_framesWrongLength : ∀ c x, commandBody c = some (0x20#8, x) → x.length ≠ 1 := by
  intro c x; cases c <;> simp [commandBody]; rintro rfl; simp

theorem test_witness_messages :
    wordIntact (word none ⟨15, .emergency⟩ (some ⟨15, 65535#16⟩) 0#16).bytes = true
      ∧ receiveReport widest.message = some widest
      ∧ 0#8 ++ 0#8 ≠ crc16 [1#8] ∧ openMessage [1#8, 0#8, 0#8] = none ∧ (0x20#8).toNat / 32 % 2 = 1
      ∧ (0x80#8).toNat / 32 % 2 = 0 := by decide +kernel

/-- R185, R69: spare bits are ignored, headroom 127 reads as 80 and request kind code 3 as NONE. -/
theorem test_spare_bits_ignored :
    (OverheadWord.parse [0#8, 0#8, 1#8, 0#8, 0#8, 0#8, 0#8, 0#8, 0x5C#8, 0xFF#8, 0#8, 0#8, 0#8, 0#8]).map
        (fun w => (w.headroom, w.request, w.commit)) = some (80, ⟨5, .none⟩, none)
      ∧ receiveDrainReady (sealMessage 0x22#8 [0xF2#8]) = some 2#4 := by decide +kernel

theorem test_witness_turn :
    turn .start base = some base
      ∧ turn .start (waiting [.complete startFrame] base) = some base
      ∧ turn .stop (waiting [.complete startFrame] base) = none
      ∧ turn .start (waiting [.failed []] base) = none := by decide +kernel

theorem test_witness_unknownCommand :
    frameComplete (controlFrame 0xEE#8 []) = true
      ∧ decodeFrame (controlFrame 0xEE#8 []) = .refused .refusedUnknown
      ∧ base.control.resetPending = false ∧ base.control.frames = []
      ∧ (waiting [.complete (controlFrame 0xEE#8 [])] base).control.frames = [.complete (controlFrame 0xEE#8 [])]
      ∧ HeldFrame.failed [] ≠ .complete (controlFrame 0xEE#8 []) := by decide +kernel

theorem test_witness_responses :
    (waiting [.failed [], .failed [1#8], .complete startFrame] base).control.frames
        = [.failed [], .failed [1#8]] ++ [.complete startFrame]
      ∧ (∀ f ∈ [HeldFrame.failed [], .failed [1#8]], ∃ bytes, f = .failed bytes)
      ∧ ∀ bytes, [HeldFrame.complete startFrame].head? ≠ some (.failed bytes) := by
  refine ⟨rfl, ?_, ?_⟩ <;> simp

theorem test_witness_raise :
    base.control.reported = none ∧ (noteReported base).control.reported = some Event.restarted.flag := by
  decide +kernel

theorem test_witness_turns (c : Instr) : turn c base = some base := by rfl

theorem test_witness_parameterRefusals :
    (4#32).toInt > 3 ∧ (0xFFFFFFFF#32).toInt < 0 ∧ (2#32).toInt > 1
      ∧ base.params.rslHigh ≤ max (-1000) (min (-150) (BitVec.ofInt 32 (-450)).toInt)
      ∧ max (-1000) (min (-150) (BitVec.ofInt 32 (-550)).toInt) ≤ base.params.rslLow
      ∧ (base.params.attMax : Int) < max 0 (min 80 (41#32).toInt)
      ∧ max 0 (min 80 (0#32).toInt) < (({ base with params := { base.params with attMin := 1 } }).params.attMin : Int) := by
  decide +kernel

theorem test_witness_parameterWrites :
    ParamId.ofByte 28#8 = some .attMin ∧ (40 : Int) = max 0 (min 80 (40#32).toInt) ∧ (40 : Int) ≤ base.params.attMax
      ∧ ParamId.ofByte 26#8 = some .rslLow ∧ (-451 : Int) < base.params.rslHigh
      ∧ ParamId.ofByte 27#8 = some .rslHigh ∧ base.params.rslLow < (-549 : Int)
      ∧ ParamId.ofByte 12#8 = some .mode ∧ max 0 (min 3 (3#32).toInt) = (3#32).toInt
      ∧ ParamId.ofByte 29#8 = some .attMax ∧ (base.params.attMin : Int) ≤ 0 := by decide +kernel

/-! ### Witnesses: the Profile Ladder -/

theorem test_witness_validation :
    ({ base with ladder := { base.ladder with edit := { four with count := 0 } } }).ladder.edit.failure
        = some (0, .count)
      ∧ commitRefusal { base with ladder := { base.ladder with edit := { four with count := 0 } } }
        = some (.refusedInvalid 0 .count)
      ∧ four.failure = none := by decide +kernel

theorem test_witness_commitLadder :
    (live .adaptive).link = .adaptive ∧ (live .fixed).rae.commit = none ∧ (live .fixed).tae.c = 0
      ∧ (live .fixed).tae.state = .steady ∧ (live .fixed).rae.e = 0 ∧ (receiving .fixed 1 none).rae.e ≠ 0
      ∧ (live .fixed).ladder.edit.failure = none
      ∧ ((live .fixed).ladder.edit.slot 0).modulation = ((live .fixed).ladder.active.slot 0).modulation
      ∧ (({ four with slots := four.slots.set 0 ⟨true, 1#4, 1#3, 42000, 70, 90, 0⟩ } : Ladder).slot 0).modulation
        ≠ (four.slot 0).modulation
      ∧ ({ four with slots := four.slots.set 0 ⟨true, 1#4, 1#3, 42000, 70, 90, 0⟩ } : Ladder).failure = none := by
  decide +kernel

/-! ### Witnesses: the Link Supervisor -/

theorem test_witness_linkCommands :
    base.link = .offline ∧ base.ladder.active.count ≠ 0 ∧ State.reset.ladder.active.count = 0
      ∧ (live .fixed).link = .fixed ∧ (live .adaptive).link ≠ .offline ∧ (live .adaptive).link ≠ .fixed
      ∧ (live (.pinned 1)).link = .pinned 1
      ∧ 16 ≤ (16#8).toNat ∧ (15#8).toNat < 16 ∧ ¬ (15#8).toNat < (live .adaptive).ladder.active.count
      ∧ ((live .adaptive).ladder.active.slot (2#8).toNat).enabled = false
      ∧ (3#8).toNat < (live .adaptive).ladder.active.count
      ∧ ((live .adaptive).ladder.active.slot (3#8).toNat).enabled = true := by decide +kernel

theorem test_witness_softReset :
    ({ reading 1 base with control := { base.control with resetPending := true } }).control.resetPending = true
      ∧ base.control.resetPending = false := by decide

theorem test_witness_bytes :
    base.control.stored < 512 ∧ frameComplete (startFrame.dropLast ++ [startFrame.getLastD 0#8]) = true
      ∧ frameComplete ([] ++ [0x20#8]) = false
      ∧ base.control.lost = none ∧ 512 ≤ (nearlyFull 512).control.stored ∧ (nearlyFull 511).control.stored < 512
      ∧ (lossy (.remaining 1) base).control.lost ≠ none ∧ Extent.remaining (1 - 1) = .remaining 0
      ∧ Extent.remaining (2 - 1) ≠ .remaining 0 ∧ (lossy (.remaining 1) base).control.frames = []
      ∧ (lossy (.remaining 1) (nearlyFull 511)).control.frames ≠ []
      ∧ (lossy (.remaining 1) base).control.resetPending = false := by decide +kernel

theorem test_witness_frameTimeouts :
    base.control.incomplete = [] ∧ base.control.lost = none ∧ (lossy .lengthNext base).control.lost ≠ none
      ∧ (halfway 6 base).control.incomplete ≠ []
      ∧ (halfway 6 base).control.frameStrobes + 1 < 8 ∧ 8 ≤ (halfway 7 base).control.frameStrobes + 1
      ∧ (halfway 7 base).control.frames = []
      ∧ (waiting [.complete startFrame] (halfway 7 base)).control.frames ≠ [] := by decide +kernel

theorem test_witness_modemLinks :
    (base.modem.get .a).up = true ∧ (State.reset.modem.get .a).up = false ∧ (base.modem.get .a).waiting = []
      ∧ (issue .a (.branch .b) base).modem.a.waiting = [.branch .b] := by decide

/-! ### Witnesses: reports, fades, words -/

theorem test_witness_reports :
    receiveReport (plain 1#16 0).message = some (plain 1#16 0)
      ∧ receiveReport unlockedReport.message = some unlockedReport
      ∧ receiveReport [] = none := by decide +kernel

theorem test_witness_slope :
    [9, 262, 1, 248] = [9] ++ 262 :: ([1] ++ [248]) ∧ [1].length + 1 = 2 ∧ [(5 : Nat)].length ≤ 1 := by decide

theorem test_witness_overflow :
    reportOverflows .a unlockedReport { base with monitor := ⟨{ Monitor.reset with burst := 31 }, .reset⟩ } = true
      ∧ reportOverflows .a unlockedReport { base with monitor := ⟨{ Monitor.reset with burst := 30 }, .reset⟩ } = false
      ∧ inService .a (live (.pinned 1)) = true
      ∧ inService .b { base with params := { base.params with mode := .singleA } } = false := by decide +kernel

/-- An overflow in service in PINNED, in OFFLINE and in FIXED, and one of a branch out of service. -/
theorem test_witness_overflowNotices :
    [LinkState.pinned 1, .offline, .fixed].map (fun x => reportOverflows .a unlockedReport
        { live x with monitor := ⟨{ Monitor.reset with burst := 31 }, .reset⟩ }) = [true, true, true]
      ∧ (base.selector.excluded.get .a = false ∧ base.params.mode = .combine)
      ∧ ({ base.selector with excluded := ⟨true, false⟩ }).excluded.get .a = true
      ∧ (LinkState.pinned 1).pin?.isSome = true ∧ LinkState.offline.pin? = none := by decide +kernel

theorem test_witness_fades :
    reportLongFade .a
        { base with fade := ⟨{ FadeClassifier.reset with faded := true, duration := some 1 }, .reset⟩ }
        unlockedReport = true
      ∧ reportFastFadingOff .a
        { base with fade := ⟨{ FadeClassifier.reset with recurrence := some 1, fastFading := true }, .reset⟩ }
        (plain 1#16 0) = true
      ∧ fadeFinding .a none { base with fade := ⟨{ FadeClassifier.reset with recurrence := some 1 }, .reset⟩ } = .onset := by
  decide +kernel

theorem test_witness_words :
    OverheadWord.parse (word none ⟨0, .none⟩ none 0#16).bytes = some (word none ⟨0, .none⟩ none 0#16)
      ∧ OverheadWord.parse (spoil (word none ⟨0, .none⟩ none 0#16).bytes) = some (word none ⟨0, .none⟩ none 0#16)
      ∧ (spoil (word none ⟨0, .none⟩ none 0#16).bytes).drop 12
        ≠ be16 (crc16 ((spoil (word none ⟨0, .none⟩ none 0#16).bytes).take 12))
      ∧ (word none ⟨0, .none⟩ none 0#16).hopId &&& base.params.hopMask = base.params.peerHop &&& base.params.hopMask
      ∧ (1#20 &&& base.params.hopMask ≠ base.params.peerHop &&& base.params.hopMask)
      ∧ base.peer.foreign + 1 < base.params.foreignThreshold
      ∧ base.params.foreignThreshold ≤ ({ base with peer := { base.peer with foreign := 15 } }).peer.foreign + 1
      ∧ orderPasses (live .adaptive).peer 100#16 = true ∧ orderPasses (live .adaptive).peer 10#16 = false := by
  decide +kernel

theorem test_witness_foreignSignal :
    reportForeignSignal { base with peer := { base.peer with foreign := 15 } }
      (carrying { word none ⟨0, .none⟩ none 0#16 with hopId := 1#20 }.bytes) = true := by decide +kernel

/-- A word with echo `x` that the channel of `live` accepts. -/
def echoing (x : Byte) : OverheadWord := word (some x) ⟨0, .none⟩ none four.digest

/-- A channel in VERIFYING one match short, whose word agrees; and one in UP one mismatch short, whose word does not. -/
theorem test_witness_echoes :
    ((live (.acquire .peerDown)).modem.get .a).up = true
      ∧ receiveReport (carrying (echoing 90#8).bytes).message = some (carrying (echoing 90#8).bytes)
      ∧ receiveReport (carrying (echoing 91#8).bytes).message = some (carrying (echoing 91#8).bytes)
      ∧ (echoing 90#8).bytes.drop 12 = be16 (crc16 ((echoing 90#8).bytes.take 12))
      ∧ (echoing 91#8).bytes.drop 12 = be16 (crc16 ((echoing 91#8).bytes.take 12))
      ∧ OverheadWord.parse (echoing 90#8).bytes = some (echoing 90#8)
      ∧ OverheadWord.parse (echoing 91#8).bytes = some (echoing 91#8)
      ∧ (echoing 90#8).hopId &&& base.params.hopMask = base.params.peerHop &&& base.params.hopMask
      ∧ (live (.acquire .peerDown)).link ≠ .offline ∧ peerUp.lastFar = some 10#16
      ∧ (100#16 - 10#16).toNat < 32768 ∧ 100#16 ≠ 10#16
      ∧ ({ peerUp with state := .verifying, verify := 7 } : PeerChannel).verify = 7
      ∧ 90#8 ∈ peerUp.ring ∧ 91#8 ∉ peerUp.ring ∧ 2 ≤ ({ peerUp with mismatch := 2 } : PeerChannel).mismatch
      ∧ reportPeerUp
        { live (.acquire .peerDown) with peer := { peerUp with state := .verifying, verify := 7 } }
        (carrying (echoing 90#8).bytes) = true
      ∧ reportEchoFault { live .adaptive with peer := { peerUp with mismatch := 2 } }
        (carrying (echoing 91#8).bytes) = true
      ∧ echoFaults peerUp (echoing 91#8) = false := by decide +kernel

theorem test_witness_silence :
    base.peer.state = .down ∧ (live .adaptive).peer.state ≠ .down
      ∧ (live .adaptive).peer.silence + 1 < (live .adaptive).params.peerTimeout
      ∧ base.params.peerTimeout ≤ ({ live .adaptive with peer := { peerUp with silence := 49 } }).peer.silence + 1 := by
  decide +kernel

/-! ### Witnesses: the engines -/

theorem test_witness_commits :
    3 < (live .adaptive).ladder.active.count ∧ ((live .adaptive).ladder.active.slot 3).enabled = true
      ∧ ((live .adaptive).ladder.active.slot 2).enabled = false
      ∧ (receiving .adaptive 0 (some ⟨3, 7#16⟩)).rae.commit = some ⟨3, 7#16⟩
      ∧ (receiving .adaptive 3 (some ⟨1, 7#16⟩)).rae.commit ≠ some ⟨3, 7#16⟩
      ∧ (live .adaptive).rae.e = 0 ∧ (live .adaptive).rae.commit = none := by decide +kernel

theorem test_witness_headers :
    completes (receiving .adaptive 0 (some ⟨3, 7#16⟩)).rae ⟨7#16, 3⟩ = true
      ∧ completes (receiving .adaptive 0 (some ⟨3, 7#16⟩)).rae ⟨6#16, 3⟩ = false
      ∧ headerNew { (live .adaptive).rae with lastHeader := some 100#16 } 36#16 = false
      ∧ headerNew { (live .adaptive).rae with lastHeader := some 100#16 } 35#16 = true
      ∧ (live .adaptive).ladder.active.enabledAt 0 = true ∧ (live .adaptive).ladder.active.enabledAt 2 = false
      ∧ (live .adaptive).ladder.active.enabledAt 3 = true ∧ (1 : Nat) < base.params.followCount := by decide +kernel

/-- A RAE one header short of following profile 3. -/
def following : State :=
  let s := receiving .adaptive 0 none
  { s with rae := { s.rae with follow := 2, candidate := some 3 } }

/-- The same with a commit to profile 3 pending for superframe 200. -/
def followingEarly : State :=
  { following with rae := { following.rae with commit := some ⟨3, 200#16⟩ } }

theorem test_witness_headerFollow :
    (following.modem.get .a).up = true ∧ receiveReport (plain 100#16 3).message = some (plain 100#16 3)
      ∧ (reportWorded .a (plain 100#16 3) following).link ≠ .offline
      ∧ (reportWorded .a (plain 100#16 3) following).selector.excluded.get .a = false
      ∧ (reportWorded .a (plain 100#16 3) following).ladder.active.enabledAt 3 = true
      ∧ (reportWorded .a (plain 100#16 3) following).rae.commit = none
      ∧ (reportWorded .a (plain 100#16 3) following).rae.e = 0
      ∧ (reportWorded .a (plain 100#16 3) following).rae.lastHeader = none
      ∧ (reportWorded .a (plain 100#16 3) following).rae.candidate = some 3
      ∧ (reportWorded .a (plain 100#16 3) following).params.followCount
        ≤ (reportWorded .a (plain 100#16 3) following).rae.follow + 1
      ∧ reportFollows .a following (plain 100#16 3) = true := by decide +kernel

/-- The header that completes the follow count names the profile of a pending commit before its switch superframe. -/
theorem test_witness_followBeforeSwitch :
    (reportWorded .a (plain 100#16 3) followingEarly).rae.commit = some ⟨3, 200#16⟩
      ∧ ¬ ((100#16 - 200#16).toNat < 32768 ∧ 3 = 3)
      ∧ reportFollows .a followingEarly (plain 100#16 3) = true := by decide +kernel

theorem test_witness_filter :
    four.count ≤ 12 ∧ targetOf four 0 4 = none ∧ targetOf four 1 2 = some 3 ∧ targetOf four 3 4 = none
      ∧ targetOf four 3 1 = some 1 ∧ targetOf four 3 2 = some 1 ∧ targetOf four 1 1 = some 1
      ∧ targetOf { four with count := 3 } 1 2 = none := by decide +kernel

theorem test_witness_requests :
    (live .adaptive).link.adapting = true ∧ (live .adaptive).tae.lastSlot = some 500#16
      ∧ targetOf (sending .adaptive 3 (.draining 1 4 20)).ladder.active 3 0 = some 0
      ∧ targetOf (live .adaptive).ladder.active 0 9 = none ∧ base.tae.lastSlot = none := by decide +kernel

theorem test_witness_fallback :
    (sending .adaptive 3 (.committed ⟨1, 532#16⟩)).tae.state = .committed ⟨1, 532#16⟩
      ∧ (532#16 - 500#16).toNat < 32768 ∧ ¬ ((400#16 - 500#16).toNat < 32768 ∧ 400#16 ≠ 500#16)
      ∧ (sending .adaptive 3 .steady).tae.c ≠ 0 ∧ (live .adaptive).tae.c = 0 := by decide +kernel

theorem test_witness_slots :
    receiveSlotRequest .a (slotRequestMessage 532#16) = some 532#16
      ∧ receiveSlotRequest .b (slotRequestMessage 532#16) = none
      ∧ (State.reset.modem.get .a).up = false ∧ (base.modem.get .a).up = true := by decide +kernel

theorem test_witness_strobes :
    (sending .adaptive 3 (.draining 1 18 20)).tae.lastSlot ≠ none
      ∧ (sending .adaptive 3 (.draining 1 18 20)).tae.state = .draining 1 18 20
      ∧ drainTimesOut (sending .adaptive 3 (.draining 1 19 20)) = true := by decide +kernel

/-- A drain that times out with an alert sent at once, kept behind a read, and with the framing DOWN or no downshift. -/
theorem test_witness_drainTimeout :
    drainTimesOut (reading 1 (sending .adaptive 3 (.draining 1 19 20))) = true ∧ (1 : Nat) < 3
      ∧ (sending .adaptive 3 (.draining 1 19 20)).capacity.framing = true
      ∧ (sending .adaptive 3 (.draining 1 19 20)).capacity.held = none
      ∧ (reading 1 (sending .adaptive 3 (.draining 1 19 20))).capacity.held ≠ none
      ∧ drainTimesOut (sending .adaptive 1 (.draining 1 19 20)) = true
      ∧ drainTimesOut { sending .adaptive 3 (.draining 1 19 20) with capacity := .resetWith false } = true
      ∧ (CapacityLink.resetWith false).framing = false := by decide +kernel

theorem test_witness_rules :
    formEstimate (some (.one .a)) (selecting .combine 248 212) ≠ none
      ∧ base.params.atpc = true ∧ (-551 : Int) < base.params.rslLow ∧ base.params.rslHigh < -449 := by decide +kernel

theorem test_witness_selector :
    (selecting .combine 248 212).selector.mode = some .combine ∧ base.selector.mode = none
      ∧ (selectorEvaluate (selecting .combine 248 212)).selector.usable = ⟨true, true⟩
      ∧ (selecting .combine 248 212).monitor.a.filter = some 15872
      ∧ (selecting .combine 248 212).monitor.a.rsl = some (-512) := by decide +kernel

theorem test_witness_select :
    evaluationSwitches { selecting .select 230 250 with
        selector := { (selecting .select 230 250).selector with dwell := 9 } } = true
      ∧ evaluationSwitches { selecting .select 230 250 with
        selector := { (selecting .select 230 250).selector with dwell := 8 } } = false
      ∧ evaluationSwitches (selecting .select 231 250) = false
      ∧ evaluationSwitches { selecting .select 230 250 with
        monitor := ⟨{ locked 230 (-512) with age := 3 }, locked 250 (-538)⟩ } = true
      ∧ (selectorEvaluate { selecting .select 230 250 with
        monitor := ⟨locked 230 (-512), { locked 250 (-538) with status := .unlocked }⟩ }).selector.usable
        = ⟨true, false⟩ := by decide +kernel

theorem test_witness_evaluation :
    (live .fixed).link ≠ .offline ∧ base.link = .offline ∧ (live .adaptive).peer.fields.adapt = true
      ∧ evaluationStalls { receiving .fixed 1 none with rae := { (receiving .fixed 1 none).rae with stall := 255 } } = true
      ∧ evaluationStalls { receiving .fixed 1 none with rae := { (receiving .fixed 1 none).rae with stall := 254 } }
        = false := by decide +kernel

/-- Outage, downshift with and without deferral, an upshift that waits and one that is ripe. -/
theorem test_witness_adaptive :
    (selectorEvaluate (live .adaptive)).selector.estimate = none
      ∧ downshiftTaken { selecting .combine 100 50 with rae := { Rae.reset with e := 3 } } 100 = true
      ∧ deferralApplies { selecting .combine 100 50 with rae := { Rae.reset with e := 3 } } .both 145 = true
      ∧ deferralApplies { selecting .combine 100 50 with rae := { Rae.reset with e := 3 } } .both 144 = false
      ∧ upshiftEntry (selecting .combine 248 212) 160 = some 1
      ∧ upshiftEntry (selecting .combine 248 212) 159 = none
      ∧ evaluationUpshifts { selecting .combine 248 212 with rae := { Rae.reset with dwell := 199 } } = true
      ∧ evaluationUpshifts { selecting .combine 248 212 with rae := { Rae.reset with dwell := 198 } } = false := by
  decide +kernel

/-- R159: with PIN and UNPIN between two evaluations, the next one finds the upshift dwell count at 0; PIN and UNPIN
leave the RAE as it was (R88). -/
theorem test_unpin_restarts_dwell :
    let s := { selecting .combine 248 212 with rae := { Rae.reset with dwell := 199 } }
    (after .unpin (after (.pin 3#8) s)).rae = s.rae
      ∧ evaluationUpshifts (after .unpin (after (.pin 3#8) s)) = false
      ∧ (after .evaluation (after .unpin (after (.pin 3#8) s))).rae.dwell = 1
      ∧ (after .evaluation (after .unpin (after (.pin 3#8) s))).unpinned = false := by decide +kernel

/-! ### Witnesses: the Capacity Link -/

theorem test_witness_capacity :
    base.capacity.framing = true ∧ State.reset.capacity.framing = false
      ∧ receiveCapacityRead capacityReadMessage = true ∧ receiveCapacityRead [] = false
      ∧ base.capacity.held = none ∧ (reading 7 base).capacity.held ≠ none
      ∧ (reading 7 base).capacity.replies.length < 8 ∧ 8 ≤ (reading 8 base).capacity.replies.length := by
  decide +kernel

theorem test_witness_drainReady :
    receiveDrainReady (drainReadyMessage 1#4) = some 1#4
      ∧ (sending .adaptive 3 (.draining 1 4 20)).tae.state = .draining 1 4 20 ∧ 1 = (1#4).toNat
      ∧ (sending .adaptive 3 (.draining 1 4 20)).tae.lastSlot = some 500#16
      ∧ (sending .adaptive 3 (.draining 1 4 20)).capacity.framing = true
      ∧ (live .adaptive).tae.state = .steady ∧ receiveDrainReady [] = none := by decide +kernel

/-! ### Witnesses: the invariants -/

/-- A lawful part in ADAPTIVE at profile 3, draining toward 1, with a pending incoming commit and a command waiting. -/
def busy : State :=
  let s := sending .adaptive 3 (.draining 1 4 20)
  let s := { s with rae := { s.rae with commit := some ⟨1, 7#16⟩ }, pending := [.evaluation] }
  { s with capacity := (publish s).capacity }

theorem test_witness_blockLaws :
    busy.params.Lawful ∧ busy.ladder.Lawful ∧ busy.PowerLawful ∧ busy.selector.InRange ∧ busy.peer.Lawful
      ∧ busy.monitor.a.Lawful busy.params.burstThreshold.a ∧ busy.monitor.b.Lawful busy.params.burstThreshold.b
      ∧ busy.fade.a.Lawful ∧ busy.fade.b.Lawful ∧ busy.capacity.Lawful ∧ busy.control.Lawful := by
  refine ⟨?_, ?_, ?_, ?_, ?_, ?_, ?_, ?_, ?_, ?_, ?_⟩ <;> decide +kernel

theorem test_witness_engines :
    busy.EnginesLawful ∧ busy.rae.InRange ∧ busy.tae.InRange ∧ busy.RecordCurrent := by
  refine ⟨⟨?_, ?_, ?_, ?_, ?_, ?_⟩, ?_, ?_, ?_⟩ <;> decide +kernel

theorem test_witness_step : ∃ t, step busy = .next t := ⟨_, rfl⟩

end Sys2Proof.Tests
end

section
/-! SUPPORT. The Profile Ladder: what a slot holds after each update of a copy, what blanking beyond the count leaves,
and the validation of R14 read row by row. -/

namespace Sys2Proof.Machine

/-! ### A command in its turn -/

theorem exec_writeLadderEntry_of_turn {i : Byte} {f : EntryFields} {s t : State}
    (h : turn (.writeLadderEntry i f) s = some t) :
    exec (.writeLadderEntry i f) s = .next (writeLadderEntry i f t) := by
  simp only [exec, execWriteLadderEntry, onTurn_of_some h]

theorem exec_readLadderEntry_of_turn {copy i : Byte} {s t : State}
    (h : turn (.readLadderEntry copy i) s = some t) :
    exec (.readLadderEntry copy i) s = .next (readLadderEntry copy i t) := by
  simp only [exec, execReadLadderEntry, onTurn_of_some h]

theorem exec_setLadderCount_of_turn {n : Byte} {s t : State} (h : turn (.setLadderCount n) s = some t) :
    exec (.setLadderCount n) s = .next (setLadderCount n t) := by
  simp only [exec, execSetLadderCount, onTurn_of_some h]

theorem exec_revertLadder_of_turn {s t : State} (h : turn .revertLadder s = some t) :
    exec .revertLadder s = .next (respond (.ok []) (revertEdit t)) := by
  simp only [exec, execRevertLadder, onTurn_of_some h]

theorem exec_commitLadder_of_turn {s t : State} (h : turn .commitLadder s = some t) :
    exec .commitLadder s = .next (commitLadder t) := by
  simp only [exec, execCommitLadder, onTurn_of_some h]

/-- Taking a turn only takes the command's frame out of the input store. -/
theorem turn_eq_some {c : Instr} {s t : State} (h : turn c s = some t) :
    t = s ∨ ∃ f rest, s.control.frames = .complete f :: rest
      ∧ t = s.withControl { s.control with frames := rest } := by
  unfold turn at h
  split at h
  · cases h
  · split at h
    · exact .inl (Option.some.inj h).symm
    · rename_i f rest hf
      split at h
      · exact .inr ⟨f, rest, hf, (Option.some.inj h).symm⟩
      · cases h
    · cases h

theorem turn_ladder {c : Instr} {s t : State} (h : turn c s = some t) : t.ladder = s.ladder := by
  obtain rfl | ⟨_, _, _, rfl⟩ := turn_eq_some h <;> rfl

/-! ### Slots -/

theorem Ladder.slot_set_same (l : Ladder) {i : Nat} (e : Entry) (h : i < 12) :
    Ladder.slot { l with slots := l.slots.setIfInBounds i e } i = e := by
  have : i < Config.slotCount := by simpa [Config.slotCount] using h
  simp [Ladder.slot, this]

theorem Ladder.slot_set_other (l : Ladder) {i j : Nat} (e : Entry) (h : j ≠ i) :
    Ladder.slot { l with slots := l.slots.setIfInBounds i e } j = l.slot j := by
  simp [Ladder.slot, Ne.symm h]

@[simp] theorem Ladder.trimmed_count (l : Ladder) : l.trimmed.count = l.count := rfl

/-- Blanking beyond the count keeps the slots below it (R7, R11, R16). -/
theorem Ladder.trimmed_slot (l : Ladder) (i : Nat) :
    l.trimmed.slot i = if i < l.count then l.slot i else Entry.blank := by
  by_cases h : i < Config.slotCount
  · simp [Ladder.slot, Ladder.trimmed, h]
  · simp [Ladder.slot, h]

/-- The entries of a copy are those below its count, so blanking beyond it keeps them (R4). -/
@[simp] theorem Ladder.trimmed_entries (l : Ladder) : l.trimmed.entries = l.entries := by
  apply List.ext_getElem?
  intro i
  simp only [Ladder.entries, Ladder.trimmed_count, List.getElem?_take]
  split
  · rename_i h
    simp [Ladder.trimmed, h]
  · rfl

@[simp] theorem Ladder.trimmed_digest (l : Ladder) : l.trimmed.digest = l.digest := by
  simp [Ladder.digest]

/-! ### Validation (R14) -/

theorem Ladder.failsAt_eq_some_iff (l : Ladder) (first : Nat) (bad : Nat → Bool) (p : Nat) :
    l.failsAt first bad = some p ↔
      p < l.count ∧ first ≤ p ∧ bad p = true ∧ ∀ q, q < p → first ≤ q → bad q = false := by
  simp only [Ladder.failsAt, List.find?_range_eq_some, List.mem_range, Bool.and_eq_true, decide_eq_true_eq,
    Bool.not_eq_true', Bool.and_eq_false_iff, decide_eq_false_iff_not]
  grind

theorem Ladder.failsAt_eq_none_iff (l : Ladder) (first : Nat) (bad : Nat → Bool) :
    l.failsAt first bad = none ↔ ∀ p, p < l.count → first ≤ p → bad p = false := by
  simp [Ladder.failsAt]

/-- A condition on an entry and the one below it fails at the same index of a copy blanked beyond its count. -/
theorem Ladder.trimmed_failsAt (l : Ladder) (first : Nat) (bad : Entry → Entry → Bool) :
    l.trimmed.failsAt first (fun p => bad (l.trimmed.slot p) (l.trimmed.slot (p - 1)))
      = l.failsAt first (fun p => bad (l.slot p) (l.slot (p - 1))) := by
  refine List.find?_congr fun p hp => ?_
  have hp : p < l.count := List.mem_range.1 hp
  simp only [l.trimmed_slot p, l.trimmed_slot (p - 1), if_pos hp, if_pos (show p - 1 < l.count by omega)]

/-- Validation looks at the count and at the entries below it alone. -/
@[simp] theorem Ladder.trimmed_failure (l : Ladder) : l.trimmed.failure = l.failure := by
  by_cases h : l.count = 0
  · simp [Ladder.failure, h]
  · have hslot : l.trimmed.slot 0 = l.slot 0 := by rw [l.trimmed_slot, if_pos (by omega)]
    simp only [Ladder.failure, Ladder.trimmed_count, hslot,
      l.trimmed_failsAt 0 fun e _ => decide (10 ≤ e.modulation.toNat),
      l.trimmed_failsAt 1 fun e below => decide (e.capacity ≤ below.capacity),
      l.trimmed_failsAt 1 fun e below => decide (e.down ≤ below.down),
      l.trimmed_failsAt 1 fun e below => decide (e.up ≤ below.up),
      l.trimmed_failsAt 1 fun e _ => decide (e.up < e.down + 5)]
    rfl

/-- What one row of the table of R14 finds: nothing when its condition holds everywhere, else its reason at the
lowest index at which it fails. -/
def Ladder.Finds (l : Ladder) (order : Nat) (found : Option (Nat × InvalidReason)) : Prop :=
  (found = none ∧ ∀ p, l.violates order p = false)
    ∨ ∃ p, found = some (p, violationReason order) ∧ l.violates order p = true
      ∧ ∀ q, q < p → l.violates order q = false

/-- A list of what the rows from `order` on find. -/
def Ladder.FindsFrom (l : Ladder) : Nat → List (Option (Nat × InvalidReason)) → Prop
  | _, [] => True
  | order, found :: rest => l.Finds order found ∧ l.FindsFrom (order + 1) rest

/-- A row about index 0 alone. -/
theorem Ladder.finds_at_zero (l : Ladder) (order : Nat) (bad : Prop) [Decidable bad]
    (h : ∀ p, l.violates order p = true ↔ p = 0 ∧ bad) :
    l.Finds order (if bad then some (0, violationReason order) else none) := by
  by_cases hb : bad
  · refine .inr ⟨0, if_pos hb, (h 0).2 ⟨rfl, hb⟩, fun q hq => absurd hq (by omega)⟩
  · refine .inl ⟨if_neg hb, fun p => ?_⟩
    simp [← Bool.not_eq_true, h, hb]

/-- A row about the entries from `first` up. -/
theorem Ladder.finds_failsAt (l : Ladder) (order first : Nat) (bad : Nat → Bool)
    (h : ∀ p, l.violates order p = true ↔ first ≤ p ∧ p < l.count ∧ bad p = true) :
    l.Finds order ((l.failsAt first bad).map (fun p => (p, violationReason order))) := by
  have hfalse : ∀ p, l.violates order p = false ↔ (first ≤ p → p < l.count → bad p = false) := fun p => by
    rw [← Bool.not_eq_true, h p]; simp
  cases hf : l.failsAt first bad with
  | none =>
    refine .inl ⟨rfl, fun p => (hfalse p).2 fun h₁ h₂ => ?_⟩
    exact (l.failsAt_eq_none_iff first bad).1 hf p h₂ h₁
  | some p =>
    obtain ⟨hp, hfirst, hbad, hleast⟩ := (l.failsAt_eq_some_iff first bad p).1 hf
    exact .inr ⟨p, rfl, (h p).2 ⟨hfirst, hp, hbad⟩, fun q hq => (hfalse q).2 fun h₁ _ => hleast q hq h₁⟩

/-- The conditions of R14 are the seven rows alone. -/
theorem Ladder.violates_outside (l : Ladder) {order : Nat} (h : order = 0 ∨ 7 < order) (p : Nat) :
    l.violates order p = false := by
  unfold Ladder.violates
  split
  iterate 7 · omega
  · rfl

/-- No row finds a failure exactly when no condition fails. -/
theorem Ladder.FindsFrom.none_iff {l : Ladder} {order : Nat} {found : List (Option (Nat × InvalidReason))}
    (h : l.FindsFrom order found) :
    found.findSome? id = none ↔ ∀ k p, order ≤ k → k < order + found.length → l.violates k p = false := by
  induction found generalizing order with
  | nil => simp; intros; omega
  | cons x rest ih =>
    obtain ⟨hx, hrest⟩ := h
    obtain ⟨rfl, hnone⟩ | ⟨p, rfl, hbad, -⟩ := hx
    · simp only [List.findSome?_cons, id, ih hrest, List.length_cons]
      refine ⟨fun hk k p h₁ h₂ => ?_, fun hk k p h₁ h₂ => hk k p (by omega) (by omega)⟩
      obtain rfl | h₁ := Nat.eq_or_lt_of_le h₁
      · exact hnone p
      · exact hk k p h₁ (by omega)
    · simp only [List.findSome?_cons, id, reduceCtorEq, false_iff]
      exact fun hk => by simp [hk order p le_rfl (by simp)] at hbad

/-- The rows' first finding is that of the first condition that fails, at the lowest index at which it fails. -/
theorem Ladder.FindsFrom.some_iff {l : Ladder} {order : Nat} {found : List (Option (Nat × InvalidReason))}
    (h : l.FindsFrom order found) (p : Nat) (reason : InvalidReason) :
    found.findSome? id = some (p, reason) ↔
      ∃ k, order ≤ k ∧ k < order + found.length ∧ reason = violationReason k ∧ l.violates k p = true
        ∧ (∀ q, q < p → l.violates k q = false)
        ∧ ∀ earlier, order ≤ earlier → earlier < k → ∀ q, l.violates earlier q = false := by
  induction found generalizing order with
  | nil => simp; intros; omega
  | cons x rest ih =>
    obtain ⟨hx, hrest⟩ := h
    obtain ⟨rfl, hnone⟩ | ⟨p', rfl, hbad, hleast⟩ := hx
    · simp only [List.findSome?_cons, id, ih hrest, List.length_cons]
      constructor
      · rintro ⟨k, h₁, h₂, rfl, hk, hl, he⟩
        refine ⟨k, by omega, by omega, rfl, hk, hl, fun e h₃ h₄ q => ?_⟩
        obtain rfl | h₃ := Nat.eq_or_lt_of_le h₃
        · exact hnone q
        · exact he e h₃ h₄ q
      · rintro ⟨k, h₁, h₂, rfl, hk, hl, he⟩
        have : order ≠ k := fun e => by simp [← e, hnone] at hk
        exact ⟨k, by omega, by omega, rfl, hk, hl, fun e h₃ h₄ q => he e (by omega) h₄ q⟩
    · simp only [List.findSome?_cons, id, Option.some.injEq, Prod.mk.injEq]
      constructor
      · rintro ⟨rfl, rfl⟩
        exact ⟨order, le_rfl, by simp, rfl, hbad, hleast, fun e h₁ h₂ => by omega⟩
      · rintro ⟨k, h₁, -, rfl, hk, hl, he⟩
        obtain rfl | h₁ := Nat.eq_or_lt_of_le h₁
        · refine ⟨?_, rfl⟩
          rcases Nat.lt_trichotomy p p' with hlt | rfl | hlt
          · simp [hleast p hlt] at hk
          · rfl
          · simp [hl p' hlt] at hbad
        · simp [he order le_rfl h₁ p'] at hbad

/-- The list that validation searches is that of the seven rows of R14. -/
theorem Ladder.failure_eq (l : Ladder) :
    ∃ found : List (Option (Nat × InvalidReason)),
      found.length = 7 ∧ l.failure = found.findSome? id ∧ l.FindsFrom 1 found := by
  refine ⟨_, ?_, rfl, ?_, ?_, ?_, ?_, ?_, ?_, ?_, trivial⟩
  · rfl
  · exact l.finds_at_zero 1 _ fun p => by simp [Ladder.violates]
  · exact l.finds_failsAt 2 0 _ fun p => by simp [Ladder.violates]; omega
  · have h := l.finds_at_zero 3 ((l.slot 0).enabled = false) fun p => by simp [Ladder.violates]
    simp only [← Bool.not_eq_true, ite_not] at h
    exact h
  · exact l.finds_failsAt 4 1 _ fun p => by simp [Ladder.violates]
  · exact l.finds_failsAt 5 1 _ fun p => by simp [Ladder.violates]
  · exact l.finds_failsAt 6 1 _ fun p => by simp [Ladder.violates]
  · exact l.finds_failsAt 7 1 _ fun p => by simp [Ladder.violates]

/-- A copy passes validation exactly when no condition of R14 fails. -/
theorem Ladder.failure_eq_none_iff (l : Ladder) : l.failure = none ↔ ∀ order p, l.violates order p = false := by
  obtain ⟨found, hlen, heq, hfound⟩ := l.failure_eq
  rw [heq, hfound.none_iff, hlen]
  refine ⟨fun h order p => ?_, fun h order p _ _ => h order p⟩
  by_cases hin : 1 ≤ order ∧ order < 1 + 7
  · exact h order p hin.1 hin.2
  · exact l.violates_outside (by omega) p

/-- The failure reported is that of the first failing condition, at the lowest index at which it fails (R14). -/
theorem Ladder.failure_eq_some_iff (l : Ladder) (p : Nat) (reason : InvalidReason) :
    l.failure = some (p, reason) ↔
      ∃ order, 1 ≤ order ∧ order ≤ 7 ∧ reason = violationReason order ∧ l.violates order p = true
        ∧ (∀ q, q < p → l.violates order q = false)
        ∧ ∀ earlier, earlier < order → ∀ q, l.violates earlier q = false := by
  obtain ⟨found, hlen, heq, hfound⟩ := l.failure_eq
  rw [heq, hfound.some_iff, hlen]
  constructor
  · rintro ⟨k, h₁, h₂, hr, hk, hl, he⟩
    refine ⟨k, h₁, by omega, hr, hk, hl, fun e h₃ q => ?_⟩
    by_cases h₀ : e = 0
    · exact l.violates_outside (.inl h₀) q
    · exact he e (by omega) h₃ q
  · rintro ⟨k, h₁, h₂, hr, hk, hl, he⟩
    exact ⟨k, h₁, by omega, hr, hk, hl, fun e _ h₃ => he e h₃⟩

end Sys2Proof.Machine
end

section
/-! PROOFS. The statements about the Profile Ladder's commands (chapter 1): O17 to O21. -/

namespace Sys2Proof.Machine

/-! ### WRITE LADDER ENTRY (R8) -/

/-- The stored entry is the arriving one with capacity and thresholds brought into range (R8). -/
theorem storedEntry_eq (f : EntryFields) :
    storedEntry f = ⟨f.enabled, f.modulation, f.codeClass, min 4000000 f.capacity.toNat, min 500 f.down.toNat,
      min 500 f.up.toNat, f.minDwell.toNat⟩ := by
  simp only [storedEntry, clampNat_eq, Config.capacityMax, Config.snrMax]

theorem fieldsClamp_eq_false_iff (f : EntryFields) :
    fieldsClamp f = false ↔ f.capacity.toNat ≤ 4000000 ∧ f.down.toNat ≤ 500 ∧ f.up.toNat ≤ 500 := by
  simp only [fieldsClamp, Bool.or_eq_false_iff, decide_eq_false_iff_not, Nat.not_lt, and_assoc]
  rfl

theorem writeLadderEntry_of_ge {i : Byte} (f : EntryFields) (t : State) (h : 12 ≤ i.toNat) :
    writeLadderEntry i f t = respond (.refusedInvalid i.toNat .indexRange) t := if_pos h

theorem writeLadderEntry_of_lt {i : Byte} (f : EntryFields) (t : State) (h : i.toNat < 12) :
    writeLadderEntry i f t =
      respond (if f.capacity.toNat ≤ 4000000 ∧ f.down.toNat ≤ 500 ∧ f.up.toNat ≤ 500 then .ok []
        else .clamped (storedEntry f).bytes) (writeEdit i.toNat (storedEntry f) t) := by
  have hi : ¬ Config.slotCount ≤ i.toNat := by simpa [Config.slotCount] using h
  simp only [writeLadderEntry, if_neg hi, ← fieldsClamp_eq_false_iff]
  cases fieldsClamp f <;> rfl

/-- Settles O17: the two cases of the index, the written slot read back by the slot lemmas. -/
theorem ladderEntriesAreWritten : Obligations.LadderEntriesAreWritten := by
  intro i f s t h
  rw [exec_writeLadderEntry_of_turn h]
  refine ⟨fun hi => by rw [writeLadderEntry_of_ge f t hi], fun hi => ?_⟩
  rw [writeLadderEntry_of_lt f t hi]
  exact ⟨writeEdit i.toNat (storedEntry f) t, storedEntry f, storedEntry_eq f, rfl,
    Ladder.slot_set_same _ _ hi, fun j hj => Ladder.slot_set_other _ _ hj, rfl, rfl⟩

/-! ### READ LADDER ENTRY, SET LADDER COUNT, REVERT LADDER (R9 to R11) -/

/-- READ LADDER ENTRY checks the selector, then the index, and answers from the copy that the selector names (R9). -/
theorem readLadderEntry_eq (copy i : Byte) (t : State) :
    readLadderEntry copy i t = respond
      (if 1 < copy.toNat then .refusedFormat
       else if 12 ≤ i.toNat then .refusedInvalid i.toNat .indexRange
       else if copy = 0#8 then .ok (entryReport t.ladder.active t.ladder.digest i.toNat)
       else .ok (entryReport t.ladder.edit t.ladder.edit.digest i.toNat)) t := by
  have hcopy : copy ≠ 0#8 ∧ copy ≠ 1#8 ↔ 1 < copy.toNat := by bv_omega
  simp only [readLadderEntry, hcopy, Config.slotCount, apply_ite (respond · t)]
  rfl

theorem appliedCount_eq (n : Nat) : appliedCount n = max 1 (min 12 n) := by
  unfold appliedCount
  split
  · omega
  · rw [clampNat_eq, Config.slotCount]
    omega

/-- Settles O18: the three commands one by one. -/
theorem ladderCopiesAreReadAndReverted : Obligations.LadderCopiesAreReadAndReverted := by
  refine ⟨fun copy i s t h => ?_, fun n s t h => ?_, fun s t h => ?_⟩
  · rw [exec_readLadderEntry_of_turn h, readLadderEntry_eq]
    rfl
  · rw [exec_setLadderCount_of_turn h]
    have hkept : appliedCount n.toNat = n.toNat ↔ 1 ≤ n.toNat ∧ n.toNat ≤ 12 := by
      rw [appliedCount_eq]; omega
    refine ⟨t.withLadder { t.ladder with edit := { t.ladder.edit with count := appliedCount n.toNat } }, ?_,
      appliedCount_eq n.toNat, rfl, rfl⟩
    simp only [setLadderCount, hkept]
    rfl
  · rw [exec_revertLadder_of_turn h]
    exact ⟨revertEdit t, rfl, rfl, fun i _ => t.ladder.active.trimmed_slot i, rfl⟩

/-! ### COMMIT LADDER (R12 to R16) -/

theorem LinkState.adapting_iff (x : LinkState) : x.adapting = true ↔ x = .adaptive ∨ ∃ p, x = .pinned p := by
  cases x <;> simp [LinkState.adapting]

theorem LinkState.holding_iff (x : LinkState) : x.holding = true ↔ x = .fixed ∨ ∃ w, x = .acquire w := by
  cases x <;> simp [LinkState.holding]

theorem LinkState.not_adapting_of_holding {x : LinkState} (h : x.holding = true) : x.adapting = false := by
  cases x <;> simp_all [LinkState.holding, LinkState.adapting]

theorem Tae.commit?_eq_none_iff (t : Tae) : t.commit? = none ↔ ∀ k, t.state ≠ .committed k := by
  cases h : t.state <;> simp [Tae.commit?, h]

theorem atRest_iff (t : State) :
    atRest t = true ↔
      (∀ k, t.tae.state ≠ .committed k) ∧ t.rae.commit = none ∧ t.tae.c = 0 ∧ t.rae.e = 0 := by
  simp [atRest, ← Tae.commit?_eq_none_iff, and_assoc]

theorem referenceKept_iff (t : State) :
    referenceKept t = true ↔ (t.ladder.edit.slot 0).modulation = (t.ladder.active.slot 0).modulation
      ∧ (t.ladder.edit.slot 0).codeClass = (t.ladder.active.slot 0).codeClass := by
  simp [referenceKept]

theorem commitRefusal_of_adapting {t : State} (h : t.link.adapting = true) :
    commitRefusal t = some .refusedState := by simp [commitRefusal, h]

theorem commitRefusal_of_moving {t : State} (h : t.link.holding = true) (hrest : ¬ atRest t = true) :
    commitRefusal t = some .refusedInTransition := by
  simp [commitRefusal, h, hrest, LinkState.not_adapting_of_holding h]

/-- Past the checks of the link state and of rest, in OFFLINE or at rest in ACQUIRE and FIXED. -/
theorem commitRefusal_of_settled {t : State} (h : t.link = .offline ∨ t.link.holding = true ∧ atRest t = true) :
    commitRefusal t =
      match t.ladder.edit.failure with
      | some (i, reason) => some (.refusedInvalid i reason)
      | none => if t.link.holding && !referenceKept t then some .refusedReference else none := by
  obtain h | ⟨h, hrest⟩ := h
  · simp only [commitRefusal, h, LinkState.adapting, LinkState.holding]
    rfl
  · simp only [commitRefusal, h, hrest, LinkState.not_adapting_of_holding h]
    rfl

theorem commitLadder_of_refusal {t : State} {r : Response} (h : commitRefusal t = some r) :
    commitLadder t = respond r t := by simp [commitLadder, h]

theorem commitLadder_of_pass {t : State} (h : commitRefusal t = none) :
    commitLadder t = respond (.ok []) (carryOutCommit t) := by simp [commitLadder, h]

/-- Settles O19: the refusal is the response alone, and validation searches the rows of R14 in order. -/
theorem validationReportsTheFirstFailure : Obligations.ValidationReportsTheFirstFailure := by
  refine ⟨fun s t p reason h hr => ?_, fun l => ⟨l.failure_eq_none_iff, l.failure_eq_some_iff⟩⟩
  refine ⟨respond (.refusedInvalid p reason) t, ?_, rfl, ?_⟩
  · rw [exec_commitLadder_of_turn h, commitLadder_of_refusal hr]
  · simp [turn_ladder h]

/-- Settles O20: one refusal after another, each past the checks before it. -/
theorem commitLadderChecksInOrder : Obligations.CommitLadderChecksInOrder := by
  intro s t h
  rw [exec_commitLadder_of_turn h]
  simp only [← LinkState.adapting_iff, ← LinkState.holding_iff, ← atRest_iff]
  refine ⟨fun hl => ?_, fun ⟨hl, hrest⟩ => ?_, fun hsettled p reason hf => ?_, fun ⟨hl, hrest⟩ hf href => ?_⟩
  · rw [commitLadder_of_refusal (commitRefusal_of_adapting hl)]
  · rw [commitLadder_of_refusal (commitRefusal_of_moving hl hrest)]
  · rw [commitLadder_of_refusal (r := .refusedInvalid p reason)]
    rw [commitRefusal_of_settled hsettled, hf]
  · have hkept : referenceKept t = false := by
      rw [← Bool.not_eq_true, referenceKept_iff]
      tauto
    rw [commitLadder_of_refusal (r := .refusedReference)]
    rw [commitRefusal_of_settled (.inr ⟨hl, hrest⟩), hf]
    simp [hl, hkept]

/-! ### The comparison after a commit (R162) -/

theorem digestsEqual_iff (s : State) : digestsEqual s = true ↔ s.peer.fields.digest = some s.ladder.digest := by
  simp [digestsEqual]

@[simp] theorem changeLink_id_link (new : LinkState) (s : State) : (changeLink new id s).link = new := rfl

/-- What the Link Supervisor's comparison of the digests in ACQUIRE leaves of a state (R160, R162): the link state, the
events and one publication for its change, and nothing else. -/
structure ComparesDigests (s v : State) : Prop where
  link : v.link = match s.link with
    | .acquire _ =>
      if s.peer.state ≠ .up then s.link
      else if s.peer.fields.digest = some s.ladder.digest then .adaptive
      else .acquire .ladderMismatch
    | _ => s.link
  control : v.control = s.control.afterRaising
    ((if v.link = s.link then 0#21 else Event.stateChanged.flag)
      ||| (if v.link ≠ s.link ∧ v.link = .acquire .ladderMismatch then Event.ladderMismatch.flag else 0#21))
  generation : v.capacity.generation = s.capacity.generation + (if v.link = s.link then 0#16 else 1#16)
  frame : v = { s with link := v.link, capacity := v.capacity, control := v.control }

/-- A comparison that finds nothing to do leaves the state as it is. -/
theorem ComparesDigests.refl {s : State}
    (h : ∀ w, s.link = .acquire w → s.peer.state = .up →
      s.peer.fields.digest ≠ some s.ladder.digest ∧ w = .ladderMismatch) : ComparesDigests s s where
  link := by
    cases hl : s.link with
    | acquire w =>
      by_cases hu : s.peer.state = .up
      · obtain ⟨hd, rfl⟩ := h w hl hu
        simp [hu, hd]
      · simp [hu]
    | _ => rfl
  control := by simp
  generation := by simp
  frame := rfl

/-- Equal digests: the link leaves ACQUIRE for ADAPTIVE. -/
theorem comparesDigests_adaptive {s : State} {w : WaitReason} (hl : s.link = .acquire w)
    (hu : s.peer.state = .up) (hd : s.peer.fields.digest = some s.ladder.digest) :
    ComparesDigests s (changeLink .adaptive id s) where
  link := by simp [hl, hu, hd]
  control := by simp [hl, changeLink_control]
  generation := by simp [hl]
  frame := rfl

/-- Digests that differ: the wait reason becomes LADDER_MISMATCH. -/
theorem comparesDigests_mismatch {s : State} {w : WaitReason} (hl : s.link = .acquire w)
    (hu : s.peer.state = .up) (hd : s.peer.fields.digest ≠ some s.ladder.digest) (hw : w ≠ .ladderMismatch) :
    ComparesDigests s (enterMismatch id s) where
  link := by simp [hl, hu, hd, enterMismatch]
  control := by
    simp [hl, hw.symm, enterMismatch, raise_control, changeLink_control, afterRaising_afterRaising]
  generation := by simp [hl, hw.symm, enterMismatch]
  frame := rfl

theorem supervisorLadder_comparesDigests (s : State) : ComparesDigests s (supervisorLadder s) := by
  by_cases hu : s.peer.state = .up
  · cases hl : s.link with
    | acquire w =>
      by_cases hd : s.peer.fields.digest = some s.ladder.digest
      · have : supervisorLadder s = changeLink .adaptive id s := by
          simp [supervisorLadder, compareInAcquire, hu, hl, (digestsEqual_iff s).2 hd]
        exact this ▸ comparesDigests_adaptive hl hu hd
      · have hne : digestsEqual s = false := by rw [← Bool.not_eq_true, digestsEqual_iff]; exact hd
        by_cases hw : w = .ladderMismatch
        · have : supervisorLadder s = s := by simp [supervisorLadder, compareInAcquire, hu, hl, hne, hw]
          rw [this]
          exact .refl fun w' hl' _ => ⟨hd, by rw [hl] at hl'; cases hl'; exact hw⟩
        · have : supervisorLadder s = enterMismatch id s := by
            simp [supervisorLadder, compareInAcquire, hu, hl, hne, hw]
          exact this ▸ comparesDigests_mismatch hl hu hd hw
    | _ =>
      have : supervisorLadder s = s := by simp [supervisorLadder, hl]
      rw [this]
      exact .refl fun w' hl' => by rw [hl] at hl'; cases hl'
  · have : supervisorLadder s = s := by simp [supervisorLadder, hu]
    rw [this]
    exact .refl fun _ _ hu' => absurd hu' hu

/-! ### A commit that is carried out (R16) -/

theorem commitRefusal_eq_none {t : State} (hf : t.ladder.edit.failure = none)
    (h : t.link = .offline ∨ t.link.holding = true ∧ atRest t = true ∧ referenceKept t = true) :
    commitRefusal t = none := by
  obtain h | ⟨hl, hrest, hkept⟩ := h
  · rw [commitRefusal_of_settled (.inl h), hf]
    simp [h, LinkState.holding]
  · rw [commitRefusal_of_settled (.inr ⟨hl, hrest⟩), hf]
    simp [hkept]

/-- A commit that is carried out is the comparison on the new ladder, with one publication more for a changed capacity
of entry 0. -/
theorem carryOutCommit_spec (t : State) :
    ∃ u, ComparesDigests (replaceActive t) u ∧ (carryOutCommit t).ladder = (replaceActive t).ladder
      ∧ (carryOutCommit t).link = u.link ∧ (carryOutCommit t).control = u.control
      ∧ (carryOutCommit t).capacity.generation
        = u.capacity.generation + (if referenceCapacityChanges t then 1#16 else 0#16)
      ∧ carryOutCommit t = { t with
          ladder := (carryOutCommit t).ladder
          link := (carryOutCommit t).link
          capacity := (carryOutCommit t).capacity
          control := (carryOutCommit t).control } := by
  have hu := supervisorLadder_comparesDigests (replaceActive t)
  have heq : carryOutCommit t = if referenceCapacityChanges t then publish (supervisorLadder (replaceActive t))
      else supervisorLadder (replaceActive t) := rfl
  generalize supervisorLadder (replaceActive t) = u at hu heq
  have hladder : u.ladder = (replaceActive t).ladder := by rw [hu.frame]
  refine ⟨u, hu, ?_⟩
  by_cases hc : referenceCapacityChanges t = true
  · rw [if_pos hc] at heq ⊢
    rw [heq]
    refine ⟨by simpa using hladder, by simp, by simp, by simp, ?_⟩
    rw [hu.frame]
    rfl
  · rw [if_neg hc] at heq ⊢
    rw [heq]
    refine ⟨hladder, rfl, rfl, by simp, ?_⟩
    rw [hu.frame]
    rfl

theorem referenceCapacityChanges_iff {t : State} (h : t.link = .offline ∨ t.link.holding = true) :
    referenceCapacityChanges t = true ↔
      t.link ≠ .offline ∧ (t.ladder.edit.slot 0).capacity ≠ (t.ladder.active.slot 0).capacity := by
  obtain h | h := h
  · simp [referenceCapacityChanges, h, LinkState.holding]
  · have : t.link ≠ .offline := fun e => by simp [e, LinkState.holding] at h
    simp [referenceCapacityChanges, h, this]

/-- Settles O21: the checks pass, the new ladder is the edit copy blank beyond its count, and the rest is what the
comparison and the publication leave. -/
theorem commitLadderReplacesTheActiveLadder : Obligations.CommitLadderReplacesTheActiveLadder := by
  intro s t h hf hpass
  have hpass : t.link = .offline ∨ t.link.holding = true ∧ atRest t = true ∧ referenceKept t = true :=
    hpass.imp_right fun ⟨hl, hstate, hcommit, hc, he, hkept⟩ =>
      ⟨t.link.holding_iff.2 hl, (atRest_iff t).2 ⟨hstate, hcommit, hc, he⟩, (referenceKept_iff t).2 hkept⟩
  rw [exec_commitLadder_of_turn h, commitLadder_of_pass (commitRefusal_eq_none hf hpass)]
  obtain ⟨u, hu, hladder, hlink, hcontrol, hgeneration, hframe⟩ := carryOutCommit_spec t
  refine ⟨carryOutCommit t, rfl, ?_, fun i _ => ?_, ?_, ?_, ?_, ?_, ?_, hframe⟩
  · rw [hladder]; rfl
  · rw [hladder]; exact t.ladder.edit.trimmed_slot i
  · rw [hladder]; rfl
  · rw [hladder]; exact t.ladder.edit.trimmed_digest
  · rw [hlink, hladder]; exact hu.link
  · rw [hcontrol, hlink]; exact hu.control
  · rw [hgeneration, hlink]
    simp only [referenceCapacityChanges_iff (hpass.imp_right And.left)]
    rw [hu.generation]; rfl

end Sys2Proof.Machine
end

section
/-! PROOFS. The resets (R178): O28. -/

namespace Sys2Proof.Machine

theorem exec_softReset_of_turn {s t : State} (h : turn .softReset s = some t) :
    exec .softReset s = .next
      ((sendControl (Response.ok []).frame t).withControl { t.control with resetPending := true }) := by
  simp only [exec, execSoftReset, onTurn_of_some h]

theorem exec_softResetTakesEffect_of_pending {s : State} (n : Fin 30) (h : s.control.resetPending = true) :
    exec (.softResetTakesEffect n) s = .next (softResetBlocks (abortRead n.val s)) := by
  simp only [exec, execSoftResetTakesEffect, if_pos h]

theorem exec_softResetTakesEffect_of_not_pending {s : State} (n : Fin 30) (h : s.control.resetPending = false) :
    exec (.softResetTakesEffect n) s = .next s := by
  simp [exec, execSoftResetTakesEffect, h]

/-- An aborted read leaves the record bytes already sent and ABORTED; without a read nothing leaves (R151, R183). -/
theorem abortRead_sent (n : Nat) (s : State) :
    (abortRead n s).sent = { s.sent with
      capacity :=
        match s.capacity.held with
        | none => s.sent.capacity
        | some b => s.sent.capacity
            ++ [sealMessage 0x31#8 ((s.capacity.buffer b).bytes.take n ++ [1#8])] } := by
  cases h : s.capacity.held <;> simp [abortRead, h, abortedRecordMessage]

/-- The events of a set that are also `e`. -/
theorem Event.flag_and (e : Event) (x : EventSet) : e.flag &&& x = if x.has e then e.flag else 0#21 := by
  have : e.flag = BitVec.twoPow 21 e.bit := by simp [Event.flag, BitVec.twoPow]
  rw [this, BitVec.and_comm, BitVec.and_twoPow]
  rfl

/-- With one event pending the line is asserted unless that event is masked (R173). -/
theorem attentionOf_flag (e : Event) (mask : EventSet) : attentionOf e.flag mask = !mask.has e := by
  have hbit : e.bit < 21 := by cases e <;> decide
  have hnot : EventSet.has (~~~mask) e = !mask.has e := by simp [EventSet.has, hbit]
  rw [attentionOf, e.flag_and, hnot]
  cases mask.has e <;> simp [e.flag_ne_zero]

/-- What a soft reset leaves (R178): every block at its reset value but for the active ladder, the parameters, the event
mask, the framings and the messages that wait on the Modem Links. -/
theorem softResetBlocks_abortRead (n : Nat) (s : State) :
    softResetBlocks (abortRead n s) = { State.reset with
      ladder := { s.ladder with edit := s.ladder.active.trimmed }
      modem := s.modem
      tae := { State.reset.tae with attenuation := softAttenuation s.params }
      capacity := { State.reset.capacity with framing := s.capacity.framing }
      control := { ControlLink.reset with
        mask := s.control.mask, attention := !s.control.mask.has .restarted }
      params := s.params
      sent := (abortRead n s).sent
      pending := s.pending } := by
  simp only [softResetBlocks, revertEdit, ControlLink.restarted, attentionOf_flag, abortRead_frame,
    State.withLadder_modem, State.withLadder_ladder, State.withLadder_sent, State.withLadder_params,
    State.withLadder_pending]
  rfl

/-- Settles O28: the answer is logged with the note that it is being sent; the reset then takes effect block by
block. -/
theorem resetsRestoreTheResetState : Obligations.ResetsRestoreTheResetState := by
  refine ⟨⟨fun s t h => ?_, fun n s h => exec_softResetTakesEffect_of_not_pending n h, fun n s h => ?_⟩, fun s => rfl⟩
  · rw [exec_softReset_of_turn h]
    rfl
  · rw [exec_softResetTakesEffect_of_pending n h, softResetBlocks_abortRead]
    exact ⟨_, rfl, rfl, rfl, rfl, fun i _ => s.ladder.active.trimmed_slot i, rfl, rfl, rfl, rfl, rfl, rfl, rfl, rfl,
      rfl, rfl, rfl, rfl, rfl, rfl, rfl, rfl, rfl, rfl, rfl, rfl, abortRead_sent n s⟩

end Sys2Proof.Machine
end

section
/-! SUPPORT. The laws of the single blocks, block by block: what each change of a block's own contents keeps. No lemma
here speaks of the whole state but through the block it reads. -/

namespace Sys2Proof.Machine

/-! ### Parameters (R169, R170) -/

theorem clampInt_mem (lo hi x : Int) (h : lo ≤ hi) : lo ≤ clampInt lo hi x ∧ clampInt lo hi x ≤ hi := by
  rw [clampInt_eq lo hi x h]; omega

theorem ParamId.range_nonempty (which : ParamId) : which.range.1 ≤ which.range.2 := by cases which <;> decide

/-- A value that SET PARAMETER takes lies in its range and keeps its pair of limits in order. -/
theorem Params.judge_take {p : Params} {identifier : Byte} {value : BitVec 32} {which : ParamId} {x : Int}
    {clamped : Bool} (h : p.judge identifier value = .take which x clamped) :
    (which.range.1 ≤ x ∧ x ≤ which.range.2) ∧ p.consistent which x = true := by
  unfold Params.judge at h
  split at h
  · cases h
  · split at h
    · cases h
    · split at h
      · rename_i hc
        cases h
        exact ⟨clampInt_mem _ _ _ which.range_nonempty, hc⟩
      · cases h

/-- Storing a value in its range that keeps its pair of limits in order keeps the table lawful: in each row only the
bounds of the parameter written are left to show. -/
theorem Params.store_lawful {p : Params} {which : ParamId} {x : Int} (h : p.Lawful)
    (hx : which.range.1 ≤ x ∧ x ≤ which.range.2) (hc : p.consistent which x = true) : (p.store which x).Lawful := by
  unfold Params.Lawful at h ⊢
  cases which <;> simp only [Params.store, ParamId.range, Params.consistent, decide_eq_true_eq] at hx hc ⊢ <;>
    simp only [h, true_and, and_true] <;> omega

/-! ### The Profile Ladder (R4, R5, R12, R17) -/

theorem Entry.blank_lawful : Entry.blank.Lawful := by decide

theorem storedEntry_lawful (f : EntryFields) : (storedEntry f).Lawful := by
  have := f.minDwell.isLt
  rw [storedEntry_eq]
  refine ⟨?_, ?_, ?_, ?_⟩ <;> dsimp only <;> omega

theorem Ladder.set_lawful {l : Ladder} (h : l.Lawful) (i : Nat) {e : Entry} (he : e.Lawful) :
    Ladder.Lawful { l with slots := l.slots.setIfInBounds i e } := by
  refine ⟨h.1, fun j hj => ?_⟩
  by_cases hij : j = i
  · rw [hij, Ladder.slot_set_same l e (hij ▸ hj)]; exact he
  · rw [Ladder.slot_set_other l e hij]; exact h.2 j hj

theorem Ladder.withCount_lawful {l : Ladder} (h : l.Lawful) {n : Nat} (hn : n ≤ 12) :
    Ladder.Lawful { l with count := n } := ⟨hn, h.2⟩

theorem Ladder.trimmed_lawful {l : Ladder} (h : l.Lawful) : l.trimmed.Lawful := by
  refine ⟨h.1, fun i hi => ?_⟩
  rw [l.trimmed_slot i]
  split
  · exact h.2 i hi
  · exact Entry.blank_lawful

theorem Ladder.trimmed_blank (l : Ladder) {i : Nat} (h : l.count ≤ i) : l.trimmed.slot i = Entry.blank := by
  rw [l.trimmed_slot i, if_neg (by omega)]

theorem ProfileLadder.withEdit_lawful {l : ProfileLadder} (h : l.Lawful) {e : Ladder} (he : e.Lawful) :
    ProfileLadder.Lawful { l with edit := e } := by
  obtain ⟨hactive, -, hrest⟩ := h
  exact ⟨hactive, he, hrest⟩

/-- An edit copy that passes validation makes a lawful active ladder. -/
theorem ProfileLadder.commit_lawful {l : ProfileLadder} (h : l.Lawful) (hf : l.edit.failure = none) :
    ProfileLadder.Lawful { l with active := l.edit.trimmed, digest := l.edit.trimmed.digest } := by
  obtain ⟨-, hedit, -⟩ := h
  exact ⟨Ladder.trimmed_lawful hedit, hedit, fun i _ hi => l.edit.trimmed_blank hi,
    .inr (l.edit.trimmed_failure.trans hf), rfl⟩

/-! ### The attenuation (R136, R137) -/

/-- The law of the attenuation, of a table of parameters and an attenuation (R136). -/
def PowerHolds (p : Params) (a : Nat) : Prop :=
  p.attMin ≤ a ∧ a ≤ p.attMax ∧ (p.atpc = false → a = p.attMin)

theorem powerLawful_iff (s : State) : s.PowerLawful ↔ PowerHolds s.params s.tae.attenuation := Iff.rfl

theorem powerHolds_attMin {p : Params} (h : p.Lawful) : PowerHolds p p.attMin := by
  refine ⟨le_rfl, ?_, fun _ => rfl⟩
  unfold Params.Lawful at h
  omega

theorem slewed_powerHolds {p : Params} {a : Nat} (h : PowerHolds p a) (hp : p.Lawful) (r : PowerRequest) :
    PowerHolds p (slewed p r a) := by
  obtain ⟨hmin, hmax, hoff⟩ := h
  unfold slewed
  split
  · rename_i hatpc
    have hon : p.atpc ≠ false := by simp [hatpc]
    cases r with
    | hold => exact ⟨hmin, hmax, hoff⟩
    | max => exact powerHolds_attMin hp
    | raise => exact ⟨by dsimp only; omega, by dsimp only; omega, fun e => absurd e hon⟩
    | lower => exact ⟨by dsimp only; omega, by dsimp only; omega, fun e => absurd e hon⟩
  · exact ⟨hmin, hmax, hoff⟩

theorem softAttenuation_powerHolds {p : Params} (h : p.Lawful) : PowerHolds p (softAttenuation p) := by
  unfold softAttenuation
  split
  · rename_i hatpc
    refine ⟨?_, le_rfl, fun e => by simp [e] at hatpc⟩
    unfold Params.Lawful at h
    omega
  · exact powerHolds_attMin h

theorem powerHolds_limited {p : Params} (h : p.attMin ≤ p.attMax) {a : Nat} (hoff : p.atpc = false → a ≤ p.attMin) :
    PowerHolds p (max p.attMin (min p.attMax a)) :=
  ⟨by omega, by omega, fun e => by have := hoff e; omega⟩

/-- The effects of R136 bring the attenuation under the limits just written. -/
theorem attenuationAfter_powerHolds {p : Params} {a : Nat} {which : ParamId} {x : Int} (h : PowerHolds p a)
    (hp : (p.store which x).Lawful) :
    PowerHolds (p.store which x) (attenuationAfter which (p.store which x) a) := by
  have hlimits : (p.store which x).attMin ≤ (p.store which x).attMax := by
    unfold Params.Lawful at hp; omega
  obtain ⟨hmin, hmax, hoff⟩ := id h
  cases which with
  | atpc =>
    unfold attenuationAfter
    dsimp only
    split
    · rename_i hatpc
      exact ⟨hmin, hmax, fun e => by simp [e] at hatpc⟩
    · exact powerHolds_attMin hp
  | attMin =>
    unfold attenuationAfter
    dsimp only
    split
    · rename_i hatpc
      exact powerHolds_limited hlimits fun e => by simp [e] at hatpc
    · exact powerHolds_attMin hp
  | attMax => exact powerHolds_limited hlimits fun e => (hoff e).le
  | _ => exact h

/-! ### Branch Monitors (R18, R26 to R32) -/

theorem snrOf_le {f : Nat} (h : f ≤ 32000) : snrOf f ≤ 500 := by unfold snrOf; omega

theorem filterStep_le {k f r : Nat} (hf : f ≤ 32000) (hr : r ≤ 500) : filterStep k f r ≤ 32000 := by
  unfold filterStep
  split
  · omega
  · rename_i hk
    have hpow : (2 : Int) ^ k = 2 * 2 ^ (k - 1) := by
      rw [← pow_succ', Nat.sub_add_cancel (by omega)]
    have hpos : (1 : Int) ≤ 2 ^ (k - 1) := one_le_pow₀ (by norm_num)
    rw [hpow]
    generalize (2 : Int) ^ (k - 1) = P at hpos
    have : ((64 * r : Int) - f + P) / (2 * P) < 32000 - f + 1 := by
      apply Int.ediv_lt_of_lt_mul (by omega)
      nlinarith [mul_nonneg (show (0 : Int) ≤ 32000 - f by omega) (show (0 : Int) ≤ P - 1 by omega)]
    omega

theorem Monitor.filterAfter_le {m : Monitor} {k r : Nat} (h : ∀ f ∈ m.filter, f ≤ 32000) (hr : r ≤ 500) :
    m.filterAfter k r ≤ 32000 := by
  unfold Monitor.filterAfter
  split
  · rename_i f _ hf
    exact filterStep_le (h f hf) hr
  · omega

theorem mem_pushRing {α : Type} {size : Nat} {ring : List α} {x y : α} (h : y ∈ pushRing size ring x) :
    y ∈ ring ∨ y = x := by simpa using List.mem_of_mem_drop h

theorem Monitor.withCounters_lawful {m : Monitor} {t : Nat} (h : m.Lawful t) (k : BranchCounters) :
    Monitor.Lawful t { m with counters := k } := h

theorem Monitor.withBurst_lawful {m : Monitor} {t t' b : Nat} (h : m.Lawful t) (hb : b ≤ t') :
    Monitor.Lawful t' { m with burst := b } := ⟨hb, h.2⟩

theorem Monitor.reset_lawful (t : Nat) : Monitor.reset.Lawful t := by
  simp [Monitor.Lawful, Monitor.reset]

theorem Monitor.aged_lawful {m : Monitor} {t : Nat} (h : m.Lawful t) : m.aged.Lawful t := by
  obtain ⟨hburst, -, hrest⟩ := h
  exact ⟨hburst, succSat_le 255 _, hrest⟩

theorem Monitor.linkDown_lawful {m : Monitor} {t : Nat} (h : m.Lawful t) : m.linkDown.Lawful t := by
  obtain ⟨hburst, -, -, -, hfilter, -⟩ := h
  exact ⟨hburst, le_rfl, by simp [Monitor.linkDown], by simp [Monitor.linkDown], hfilter, by simp [Monitor.linkDown],
    by simp [Monitor.linkDown], by simp [Monitor.linkDown], by simp [Monitor.linkDown], by simp [Monitor.linkDown],
    by simp [Monitor.linkDown]⟩

theorem Monitor.measured_lawful {m : Monitor} {t : Nat} (h : m.Lawful t) (k : Nat) (r : Report) :
    (m.measured k r).Lawful t := by
  obtain ⟨hburst, -, -, hring, hfilter, -⟩ := h
  have hrsl := clampInt_mem (-1000) (-150) r.rsl (by decide)
  have hsnr : clampNat Config.snrMax r.rawSnr ≤ 500 := by rw [clampNat_eq]; exact Nat.min_le_left ..
  have hafter := Monitor.filterAfter_le (k := k) hfilter hsnr
  unfold Monitor.measured
  split
  · refine ⟨hburst, Nat.zero_le _, ?_, fun x hx => ?_, ?_, ?_, ?_, ?_, ?_, ?_, ?_⟩
    · rw [pushRing_length]; exact Nat.min_le_left ..
    · obtain hx | rfl := mem_pushRing hx
      · exact hring x hx
      · exact snrOf_le hafter
    · simpa using hafter
    · simpa using hrsl
    all_goals simp
  · refine ⟨hburst, Nat.zero_le _, ?_, ?_, hfilter, ?_, ?_, ?_, ?_, ?_, ?_⟩
    case refine_3 => simpa using hrsl
    all_goals simp

theorem Monitor.burstStep_lawful {m : Monitor} {t : Nat} (h : m.Lawful t) (k : BurstClass) :
    (m.burstStep t k).Lawful t := by
  have hburst := h.1
  unfold Monitor.burstStep
  split
  · exact h
  · exact Monitor.withBurst_lawful h (by omega)
  · split
    · exact Monitor.withBurst_lawful h (by omega)
    · exact Monitor.withCounters_lawful (Monitor.withBurst_lawful h (Nat.zero_le t)) _

theorem Monitor.capBurst_lawful {m : Monitor} {t : Nat} (h : m.Lawful t) (t' : Nat) : (m.capBurst t').Lawful t' := by
  unfold Monitor.capBurst
  split
  · exact Monitor.withBurst_lawful h le_rfl
  · exact ⟨by omega, h.2⟩

/-! ### Fade Classifiers (R38 to R44) -/

theorem FadeClassifier.reset_lawful : FadeClassifier.reset.Lawful := by
  simp [FadeClassifier.Lawful, FadeClassifier.reset]

/-- A running timer that counts down stays in its range or stops. -/
theorem countDown_mem {timer : Option Nat} (h : ∀ n ∈ timer, 1 ≤ n ∧ n ≤ 65535) :
    ∀ n ∈ countDown timer, 1 ≤ n ∧ n ≤ 65535 := by
  unfold countDown
  split
  · rename_i n
    have := h (n + 2) rfl
    intro m hm
    cases hm
    omega
  · simp

theorem fadeTest_onset {t y : Nat} {faded : Bool} {x : Option Nat} (h : fadeTest t y faded x = .onset) :
    faded = false := by
  unfold fadeTest at h
  split at h
  · rfl
  · rfl
  · cases h
  · split at h <;> cases h

theorem durationStep_lawful {f : FadeClassifier} (h : f.Lawful) {limit : Nat} (hlimit : 1 ≤ limit ∧ limit ≤ 65535)
    {finding : FadeFinding} (honset : finding = .onset → f.faded = false) :
    (f.durationStep limit finding).Lawful := by
  obtain ⟨hduration, hrecurrence, hclear, hlong⟩ := h
  cases finding with
  | onset =>
    have hlf := (hclear (honset rfl)).2
    exact ⟨by simpa [FadeClassifier.durationStep] using hlimit, hrecurrence, by simp [FadeClassifier.durationStep],
      by simp [FadeClassifier.durationStep, hlf]⟩
  | ended =>
    exact ⟨by simp [FadeClassifier.durationStep], hrecurrence, by simp [FadeClassifier.durationStep],
      by simp [FadeClassifier.durationStep]⟩
  | neither =>
    unfold FadeClassifier.durationStep
    dsimp only
    split
    · rename_i hfaded
      refine ⟨countDown_mem hduration, hrecurrence, fun e => by simp [hfaded] at e, fun e => ?_⟩
      simp only [Bool.or_eq_true, decide_eq_true_eq] at e
      obtain e | e := e
      · simp [hlong e, countDown]
      · simp [e, countDown]
    · exact ⟨hduration, hrecurrence, hclear, hlong⟩

theorem recurrenceStep_lawful {f : FadeClassifier} (h : f.Lawful) {limit : Nat} (hlimit : 1 ≤ limit ∧ limit ≤ 65535)
    (finding : FadeFinding) : (f.recurrenceStep limit finding).Lawful := by
  obtain ⟨hduration, hrecurrence, hclear, hlong⟩ := h
  cases finding with
  | onset => exact ⟨hduration, by simpa [FadeClassifier.recurrenceStep] using hlimit, hclear, hlong⟩
  | _ => exact ⟨hduration, countDown_mem hrecurrence, hclear, hlong⟩

theorem classify_lawful {p : Params} (hp : p.Lawful) {f : FadeClassifier} (h : f.Lawful) {finding : FadeFinding}
    (honset : finding = .onset → f.faded = false) : (classify p f finding).Lawful := by
  unfold Params.Lawful at hp
  exact recurrenceStep_lawful (durationStep_lawful h (by omega) honset) (by omega) finding

/-! ### The Diversity Selector (R50, R55, R58 to R60) -/

/-- The ranges of a governing estimate (R60). -/
def Estimate.InRange (x : Estimate) : Prop :=
  x.snr ≤ 500 ∧ -500 ≤ x.slope ∧ x.slope ≤ 500 ∧ -1000 ≤ x.rsl ∧ x.rsl ≤ -150

theorem selector_inRange_iff (k : Selector) : k.InRange ↔ k.dwell ≤ 999 ∧ ∀ x ∈ k.estimate, x.InRange := Iff.rfl

theorem Monitor.slope_mem (m : Monitor) (span : Nat) : -500 ≤ m.slope span ∧ m.slope span ≤ 500 := by
  unfold Monitor.slope
  split
  · exact clampInt_mem _ _ _ (by decide)
  · decide

theorem singleEstimate_inRange {s : State} {link : Branch} {t : Nat} (h : (s.monitor.get link).Lawful t) :
    ∀ x ∈ singleEstimate link s, x.InRange := by
  obtain ⟨-, -, -, -, hfilter, hrsl, -⟩ := h
  intro x hx
  unfold singleEstimate at hx
  split at hx
  · rename_i f l hf hl
    cases hx
    obtain ⟨f', hf', rfl⟩ := Option.map_eq_some_iff.1 hf
    obtain ⟨hlow, hhigh⟩ := Monitor.slope_mem (s.monitor.get link) s.params.slopeSpan
    exact ⟨snrOf_le (hfilter f' hf'), hlow, hhigh, hrsl l hl⟩
  · cases hx

theorem combineEstimates_inRange {x y : Estimate} (hx : x.InRange) (hy : y.InRange) :
    (combineEstimates x y).InRange := by
  unfold Estimate.InRange at hx hy
  refine ⟨Nat.min_le_left .., ?_, ?_, ?_, ?_⟩ <;> dsimp only [combineEstimates] <;> omega

theorem formEstimate_inRange {s : State} {t : Branch → Nat} (h : ∀ l, (s.monitor.get l).Lawful (t l))
    (g : Option Governing) : ∀ x ∈ formEstimate g s, x.InRange := by
  unfold formEstimate
  split
  · simp
  · rename_i l
    exact singleEstimate_inRange (h l)
  · split
    · rename_i x y hx hy
      intro z hz
      cases hz
      exact combineEstimates_inRange (singleEstimate_inRange (h .a) x hx) (singleEstimate_inRange (h .b) y hy)
    · simp

/-! ### The Peer Channel (R66, R73 to R76, R81) -/

theorem PeerChannel.reset_lawful : PeerChannel.reset.Lawful := by decide

theorem PeerChannel.entersDown_lawful {k : PeerChannel} (hforeign : k.foreign ≤ 254) (hring : k.ring.length ≤ 16) :
    k.entersDown.Lawful := by
  simp [PeerChannel.Lawful, PeerChannel.entersDown, hforeign, hring]

theorem PeerChannel.withCounters_lawful {k : PeerChannel} (h : k.Lawful) (x : PeerCounters) :
    PeerChannel.Lawful { k with counters := x } := h

theorem PeerChannel.withForeign_lawful {k : PeerChannel} (h : k.Lawful) {n : Nat} (hn : n ≤ 254) (x : PeerCounters) :
    PeerChannel.Lawful { k with foreign := n, counters := x } := by
  obtain ⟨hfar, hmismatch, hup, hverifying, -, hrest⟩ := h
  exact ⟨hfar, hmismatch, hup, hverifying, hn, hrest⟩

theorem PeerChannel.withSilence_lawful {k : PeerChannel} (h : k.Lawful) {n : Nat} (hn : n ≤ 999)
    (hk : k.state ≠ .down) : PeerChannel.Lawful { k with silence := n } := by
  obtain ⟨hfar, hmismatch, hup, hverifying, hforeign, -, -, hring⟩ := h
  exact ⟨hfar, hmismatch, hup, hverifying, hforeign, hn, fun e => absurd e hk, hring⟩

theorem PeerChannel.challenged_lawful {k : PeerChannel} (h : k.Lawful) : k.challenged.Lawful := by
  obtain ⟨hfar, hmismatch, hup, hverifying, hforeign, hsilence, hdown, -⟩ := h
  refine ⟨hfar, hmismatch, hup, hverifying, hforeign, hsilence, hdown, ?_⟩
  simp only [PeerChannel.challenged, pushRing_length]
  exact Nat.min_le_left ..

/-- What acceptance gives a lawful channel (R73), and the echo check and the channel state keep: *L* is set, and the
counts are in range. -/
structure PeerChannel.Open (k : PeerChannel) : Prop where
  far : k.lastFar.isSome = true
  mismatch : k.mismatch ≤ 3
  foreign : k.foreign ≤ 254
  silence : k.silence ≤ 999
  ring : k.ring.length ≤ 16

theorem PeerChannel.accept_open {k : PeerChannel} (h : k.Lawful) (m : Superframe) (w : OverheadWord) :
    (k.accept m w).Open := by
  obtain ⟨-, hmismatch, -, -, hforeign, -, -, hring⟩ := h
  exact ⟨rfl, hmismatch, hforeign, Nat.zero_le _, hring⟩

theorem PeerChannel.Open.countEcho {k : PeerChannel} (h : k.Open) (x : EchoFinding) : (k.countEcho x).Open := by
  have hmismatch := h.mismatch
  cases x with
  | agrees => exact ⟨h.far, by dsimp only [PeerChannel.countEcho]; omega, h.foreign, h.silence, h.ring⟩
  | mismatch => exact ⟨h.far, succSat_le .., h.foreign, h.silence, h.ring⟩
  | neither => exact h

theorem PeerChannel.countEcho_agrees_lt {k : PeerChannel} (h : k.Open) {x : EchoFinding} (hx : x = .agrees) :
    (k.countEcho x).mismatch < 3 := by
  have := h.mismatch
  subst hx
  dsimp only [PeerChannel.countEcho]
  omega

@[simp] theorem PeerChannel.countEcho_state (k : PeerChannel) (x : EchoFinding) :
    (k.countEcho x).state = k.state := by cases x <;> rfl

@[simp] theorem PeerChannel.countEcho_verify (k : PeerChannel) (x : EchoFinding) :
    (k.countEcho x).verify = k.verify := by cases x <;> rfl

theorem PeerChannel.Open.verifying {k : PeerChannel} (h : k.Open) (n : Nat) (x : EchoFinding) :
    (k.verifying n x).Open := by
  cases x <;> exact ⟨h.far, h.mismatch, h.foreign, h.silence, h.ring⟩

/-- An open channel is lawful by its state and verify count: outside DOWN, with fewer than eight matches in VERIFYING,
with eight and no third mismatch in UP. -/
theorem PeerChannel.Open.lawful {k : PeerChannel} (h : k.Open) (hstate : k.state ≠ .down)
    (hverifying : k.state = .verifying → k.verify < 8) (hup : k.state = .up → k.mismatch < 3 ∧ k.verify = 8) :
    k.Lawful :=
  ⟨by simp [h.far, hstate], h.mismatch, hup, hverifying, h.foreign, h.silence, fun e => absurd e hstate, h.ring⟩

/-- The channel state as in VERIFYING (R75): the eighth match goes UP. -/
theorem PeerChannel.Open.verifying_lawful {k : PeerChannel} (h : k.Open) {n : Nat} (hn : n < 8) {x : EchoFinding}
    (hx : x = .agrees → k.mismatch < 3) : (k.verifying n x).Lawful := by
  cases x with
  | agrees =>
    have hmismatch := hx rfl
    by_cases hgoal : Config.verifyGoal ≤ n + 1
    · have hn8 : n + 1 = 8 := by unfold Config.verifyGoal at hgoal; omega
      exact (h.verifying n _).lawful (by simp [PeerChannel.verifying, hgoal])
        (by simp [PeerChannel.verifying, hgoal]) fun _ => ⟨hmismatch, hn8⟩
    · have hlt : n + 1 < 8 := by unfold Config.verifyGoal at hgoal; omega
      exact (h.verifying n _).lawful (by simp [PeerChannel.verifying, hgoal]) (fun _ => hlt)
        (by simp [PeerChannel.verifying, hgoal])
  | mismatch =>
    exact (h.verifying n .mismatch).lawful (by simp [PeerChannel.verifying]) (by simp [PeerChannel.verifying])
      (by simp [PeerChannel.verifying])
  | neither =>
    exact (h.verifying n .neither).lawful (by simp [PeerChannel.verifying]) (fun _ => hn)
      (by simp [PeerChannel.verifying])

theorem PeerChannel.taken_open {k : PeerChannel} (h : k.Lawful) (m : Superframe) (w : OverheadWord) :
    (k.taken m w).Open := by
  have ho := (PeerChannel.accept_open h m w).countEcho (echoCheck k.ring w.echo)
  unfold PeerChannel.taken PeerChannel.updateState
  split
  · exact ho.verifying _ _
  · exact ho.verifying _ _
  · exact ho

/-- An accepted word that is no echo fault leaves the channel lawful (R73 to R75). -/
theorem PeerChannel.taken_lawful {k : PeerChannel} (h : k.Lawful) (m : Superframe) (w : OverheadWord)
    (hfault : echoFaults k w = false) : (k.taken m w).Lawful := by
  have ho := PeerChannel.accept_open h m w
  have he := ho.countEcho (echoCheck k.ring w.echo)
  have hagrees := fun hx => PeerChannel.countEcho_agrees_lt ho (x := echoCheck k.ring w.echo) hx
  obtain ⟨-, -, hup, hverifying, -⟩ := h
  cases hs : k.state with
  | down =>
    have : k.taken m w
        = ((k.accept m w).countEcho (echoCheck k.ring w.echo)).verifying 0 (echoCheck k.ring w.echo) := by
      simp [PeerChannel.taken, PeerChannel.updateState, PeerChannel.accept, hs]
    exact this ▸ he.verifying_lawful (by decide) hagrees
  | verifying =>
    have : k.taken m w
        = ((k.accept m w).countEcho (echoCheck k.ring w.echo)).verifying k.verify (echoCheck k.ring w.echo) := by
      simp [PeerChannel.taken, PeerChannel.updateState, PeerChannel.accept, hs]
    exact this ▸ he.verifying_lawful (hverifying hs) hagrees
  | up =>
    have : k.taken m w = (k.accept m w).countEcho (echoCheck k.ring w.echo) := by
      simp [PeerChannel.taken, PeerChannel.updateState, PeerChannel.accept, hs]
    obtain ⟨hlt, hverify⟩ := hup hs
    rw [this]
    refine he.lawful (by simp [PeerChannel.accept, hs]) (by simp [PeerChannel.accept, hs]) fun _ => ⟨?_, ?_⟩
    · cases hx : echoCheck k.ring w.echo with
      | agrees => exact PeerChannel.countEcho_agrees_lt ho rfl
      | mismatch =>
        have : ¬ Config.mismatchLimit ≤ succSat Config.mismatchLimit k.mismatch := by
          simpa [echoFaults, hs, hx] using hfault
        exact Nat.lt_of_not_le this
      | neither => exact hlt
    · simpa [PeerChannel.accept] using hverify

/-! ### The Capacity Link (R141, R144 to R148) -/

theorem CapacityLink.resetWith_lawful (framing : Bool) : (CapacityLink.resetWith framing).Lawful := by
  simp [CapacityLink.Lawful, CapacityLink.resetWith, CapacityLink.buffer, CapacityRecord.generationZero]

/-- With no read in flight nothing waits (R147). -/
theorem CapacityLink.ended_lawful {k : CapacityLink} (h : k.Lawful) (framing : Bool) :
    CapacityLink.Lawful { k with framing := framing, held := none, replies := [], alert := none } := by
  obtain ⟨-, -, -, hgeneration⟩ := h
  exact ⟨Nat.zero_le _, fun _ => ⟨rfl, rfl⟩, fun _ => rfl, hgeneration⟩

/-- A publication writes the newest record with the new generation (R144). -/
theorem publish_capacity_lawful {s : State} (h : s.capacity.Lawful) : (publish s).capacity.Lawful := by
  obtain ⟨hreplies, hidle, hdown, -⟩ := h
  refine ⟨?_, ?_, ?_, ?_⟩
  · simpa using hreplies
  · simpa using hidle
  · simpa using hdown
  · simp [recordNow]

/-! ### The Control Link (R167, R172 to R175) -/

theorem ControlLink.reset_lawful : ControlLink.reset.Lawful := by decide

theorem ControlLink.restarted_lawful (k : ControlLink) : k.restarted.Lawful := by
  simp [ControlLink.Lawful, ControlLink.restarted, ControlLink.reset, ControlLink.withEvents, ControlLink.stored,
    frameComplete]

/-- The law of the pending set, the mask, the line and the reported set (R173, R174). -/
def EventsHold (events mask : EventSet) (reported : Option EventSet) (attention : Bool) : Prop :=
  attention = attentionOf events mask ∧ reported.all (fun r => r &&& events == r) = true

/-- The law of the input store (R166, R167). -/
def StoreHolds (frames : List HeldFrame) (incomplete : List Byte) (lost : Option Extent) (strobes : Nat) : Prop :=
  (frames.map HeldFrame.size).sum + incomplete.length ≤ 512 ∧ strobes < 8
    ∧ (lost = none → frameComplete incomplete = false) ∧ lost ≠ some (.remaining 0)

theorem controlLawful_iff (k : ControlLink) :
    k.Lawful ↔ EventsHold k.events k.mask k.reported k.attention
      ∧ StoreHolds k.frames k.incomplete k.lost k.frameStrobes := by
  unfold EventsHold StoreHolds ControlLink.Lawful ControlLink.stored
  tauto

/-- Raising a set keeps the reported set among the pending ones (R174). -/
theorem eventsHold_raise {events mask : EventSet} {reported : Option EventSet} {attention : Bool}
    (h : EventsHold events mask reported attention) (x : EventSet) :
    EventsHold (events ||| x) mask (reported.map (fun r => r &&& ~~~x)) (attentionOf (events ||| x) mask) := by
  refine ⟨rfl, ?_⟩
  obtain ⟨-, hreported⟩ := h
  cases reported with
  | none => rfl
  | some r =>
    have hr : r &&& events = r := by simpa using hreported
    have : r &&& ~~~x &&& (events ||| x) = r &&& ~~~x := by
      apply BitVec.eq_of_getLsbD_eq
      intro i hi
      have hi' := congrArg (fun v : EventSet => v.getLsbD i) hr
      simp only [BitVec.getLsbD_and, BitVec.getLsbD_or, BitVec.getLsbD_not] at hi' ⊢
      revert hi'
      cases r.getLsbD i <;> cases events.getLsbD i <;> cases x.getLsbD i <;> simp
    simpa using this

theorem storeHolds_drop {frames : List HeldFrame} {x : HeldFrame} {incomplete : List Byte} {lost : Option Extent}
    {strobes : Nat} (h : StoreHolds (x :: frames) incomplete lost strobes) :
    StoreHolds frames incomplete lost strobes := by
  obtain ⟨hsize, hrest⟩ := h
  exact ⟨by simp only [List.map_cons, List.sum_cons] at hsize; omega, hrest⟩

/-- A frame that has ended leaves the store empty of an incomplete one (R167). -/
theorem storeHolds_ended {frames : List HeldFrame} (h : (frames.map HeldFrame.size).sum ≤ 512) :
    StoreHolds frames [] none 0 := ⟨by simpa using h, by decide, fun _ => rfl, by simp⟩

end Sys2Proof.Machine
end

section
/-! SUPPORT. The laws of the single blocks hold of a state together (`State.BlockLawful`), and every operation of the
model keeps them: one lemma per operation, `h.after_op`, in the order of the model's files, each by the branches of
the operation and the lemmas of the operations it is made of. -/

namespace Sys2Proof.Machine

/-- The laws of the blocks taken one by one. -/
structure State.BlockLawful (s : State) : Prop where
  params : s.params.Lawful
  ladder : s.ladder.Lawful
  power : PowerHolds s.params s.tae.attenuation
  selector : s.selector.InRange
  peer : s.peer.Lawful
  monitor : ∀ l, (s.monitor.get l).Lawful (s.params.burstThreshold.get l)
  fade : ∀ l, (s.fade.get l).Lawful
  capacity : s.capacity.Lawful
  control : s.control.Lawful

theorem blockLawful_iff (s : State) :
    s.BlockLawful ↔
      s.params.Lawful ∧ s.ladder.Lawful ∧ s.PowerLawful ∧ s.selector.InRange ∧ s.peer.Lawful
      ∧ s.monitor.a.Lawful s.params.burstThreshold.a ∧ s.monitor.b.Lawful s.params.burstThreshold.b
      ∧ s.fade.a.Lawful ∧ s.fade.b.Lawful ∧ s.capacity.Lawful ∧ s.control.Lawful := by
  rw [powerLawful_iff]
  constructor
  · rintro ⟨hp, hl, hw, hs, hk, hm, hf, hc, hi⟩
    exact ⟨hp, hl, hw, hs, hk, hm .a, hm .b, hf .a, hf .b, hc, hi⟩
  · rintro ⟨hp, hl, hw, hs, hk, hma, hmb, hfa, hfb, hc, hi⟩
    exact ⟨hp, hl, hw, hs, hk, fun l => by cases l <;> assumption, fun l => by cases l <;> assumption, hc, hi⟩

namespace State.BlockLawful

variable {s : State}

/-! ### Replacing a block -/

theorem withLadder (h : s.BlockLawful) {x : ProfileLadder} (hx : x.Lawful) : (s.withLadder x).BlockLawful :=
  ⟨h.params, hx, h.power, h.selector, h.peer, h.monitor, h.fade, h.capacity, h.control⟩

theorem withModem (h : s.BlockLawful) (x : PerBranch ModemLink) : (s.withModem x).BlockLawful :=
  ⟨h.params, h.ladder, h.power, h.selector, h.peer, h.monitor, h.fade, h.capacity, h.control⟩

theorem withMonitor (h : s.BlockLawful) {x : PerBranch Monitor}
    (hx : ∀ l, (x.get l).Lawful (s.params.burstThreshold.get l)) : (s.withMonitor x).BlockLawful :=
  ⟨h.params, h.ladder, h.power, h.selector, h.peer, hx, h.fade, h.capacity, h.control⟩

theorem withFade (h : s.BlockLawful) {x : PerBranch FadeClassifier} (hx : ∀ l, (x.get l).Lawful) :
    (s.withFade x).BlockLawful :=
  ⟨h.params, h.ladder, h.power, h.selector, h.peer, h.monitor, hx, h.capacity, h.control⟩

theorem withSelector (h : s.BlockLawful) {x : Selector} (hx : x.InRange) : (s.withSelector x).BlockLawful :=
  ⟨h.params, h.ladder, h.power, hx, h.peer, h.monitor, h.fade, h.capacity, h.control⟩

/-- A change of the selector that leaves the estimate. -/
theorem updateSelector (h : s.BlockLawful) (x : Selector) (hdwell : x.dwell ≤ 999)
    (hx : x.estimate = s.selector.estimate := by rfl) : (s.withSelector x).BlockLawful :=
  h.withSelector ⟨hdwell, hx ▸ h.selector.2⟩

theorem withPeer (h : s.BlockLawful) {x : PeerChannel} (hx : x.Lawful) : (s.withPeer x).BlockLawful :=
  ⟨h.params, h.ladder, h.power, h.selector, hx, h.monitor, h.fade, h.capacity, h.control⟩

theorem withRae (h : s.BlockLawful) (x : Rae) : (s.withRae x).BlockLawful :=
  ⟨h.params, h.ladder, h.power, h.selector, h.peer, h.monitor, h.fade, h.capacity, h.control⟩

theorem withTae (h : s.BlockLawful) {x : Tae} (hx : PowerHolds s.params x.attenuation) : (s.withTae x).BlockLawful :=
  ⟨h.params, h.ladder, hx, h.selector, h.peer, h.monitor, h.fade, h.capacity, h.control⟩

/-- A change of the TAE that leaves the attenuation. -/
theorem updateTae (h : s.BlockLawful) (x : Tae) (hx : x.attenuation = s.tae.attenuation := by rfl) :
    (s.withTae x).BlockLawful := h.withTae (hx ▸ h.power)

theorem withCapacity (h : s.BlockLawful) {x : CapacityLink} (hx : x.Lawful) : (s.withCapacity x).BlockLawful :=
  ⟨h.params, h.ladder, h.power, h.selector, h.peer, h.monitor, h.fade, hx, h.control⟩

theorem withLink (h : s.BlockLawful) (x : LinkState) : (s.withLink x).BlockLawful :=
  ⟨h.params, h.ladder, h.power, h.selector, h.peer, h.monitor, h.fade, h.capacity, h.control⟩

theorem withControl (h : s.BlockLawful) {x : ControlLink} (hx : x.Lawful) : (s.withControl x).BlockLawful :=
  ⟨h.params, h.ladder, h.power, h.selector, h.peer, h.monitor, h.fade, h.capacity, hx⟩

theorem withSent (h : s.BlockLawful) (x : Sent) : (s.withSent x).BlockLawful :=
  ⟨h.params, h.ladder, h.power, h.selector, h.peer, h.monitor, h.fade, h.capacity, h.control⟩

theorem withUnpinned (h : s.BlockLawful) (x : Bool) : (s.withUnpinned x).BlockLawful :=
  ⟨h.params, h.ladder, h.power, h.selector, h.peer, h.monitor, h.fade, h.capacity, h.control⟩

theorem withPending (h : s.BlockLawful) (x : List Instr) : (s.withPending x).BlockLawful :=
  ⟨h.params, h.ladder, h.power, h.selector, h.peer, h.monitor, h.fade, h.capacity, h.control⟩

theorem setMonitor (h : s.BlockLawful) (l : Branch) {m : Monitor} (hm : m.Lawful (s.params.burstThreshold.get l)) :
    (s.withMonitor (s.monitor.set l m)).BlockLawful := by
  refine h.withMonitor fun k => ?_
  by_cases hk : k = l
  · rw [hk, PerBranch.get_set_same]; exact hm
  · rw [PerBranch.get_set_other _ _ hk]; exact h.monitor k

theorem setFade (h : s.BlockLawful) (l : Branch) {f : FadeClassifier} (hf : f.Lawful) :
    (s.withFade (s.fade.set l f)).BlockLawful := by
  refine h.withFade fun k => ?_
  by_cases hk : k = l
  · rw [hk, PerBranch.get_set_same]; exact hf
  · rw [PerBranch.get_set_other _ _ hk]; exact h.fade k

/-! ### Events (Flags.lean) -/

/-- New pending set, mask, reported set and line, with the input store kept. -/
theorem withControlEvents (h : s.BlockLawful) {k : ControlLink}
    (hk : EventsHold k.events k.mask k.reported k.attention)
    (hframes : k.frames = s.control.frames) (hincomplete : k.incomplete = s.control.incomplete)
    (hlost : k.lost = s.control.lost) (hstrobes : k.frameStrobes = s.control.frameStrobes) :
    (s.withControl k).BlockLawful := by
  obtain ⟨-, hstore⟩ := (controlLawful_iff _).1 h.control
  refine h.withControl ((controlLawful_iff k).2 ⟨hk, ?_⟩)
  rw [hframes, hincomplete, hlost, hstrobes]
  exact hstore

/-- A new input store, with the events kept. -/
theorem withControlStore (h : s.BlockLawful) {k : ControlLink}
    (hk : StoreHolds k.frames k.incomplete k.lost k.frameStrobes)
    (hevents : k.events = s.control.events) (hmask : k.mask = s.control.mask)
    (hreported : k.reported = s.control.reported) (hattention : k.attention = s.control.attention) :
    (s.withControl k).BlockLawful := by
  obtain ⟨hevent, -⟩ := (controlLawful_iff _).1 h.control
  refine h.withControl ((controlLawful_iff k).2 ⟨?_, hk⟩)
  rw [hevents, hmask, hreported, hattention]
  exact hevent

theorem events (h : s.BlockLawful) :
    EventsHold s.control.events s.control.mask s.control.reported s.control.attention :=
  ((controlLawful_iff _).1 h.control).1

theorem store (h : s.BlockLawful) :
    StoreHolds s.control.frames s.control.incomplete s.control.lost s.control.frameStrobes :=
  ((controlLawful_iff _).1 h.control).2

theorem after_raise (h : s.BlockLawful) (e : Event) : (raise e s).BlockLawful :=
  h.withControlEvents (eventsHold_raise h.events e.flag) rfl rfl rfl rfl

theorem after_raiseIf (h : s.BlockLawful) (b : Bool) (e : Event) : (raiseIf b e s).BlockLawful := by
  obtain ⟨-, hr⟩ | ⟨-, hr⟩ := raiseIf_cases b e s
  · rw [hr]; exact h.after_raise e
  · rw [hr]; exact h

theorem after_setMask (h : s.BlockLawful) (mask : EventSet) : (setMask mask s).BlockLawful :=
  h.withControlEvents ⟨rfl, h.events.2⟩ rfl rfl rfl rfl

theorem after_noteReported (h : s.BlockLawful) : (noteReported s).BlockLawful :=
  h.withControlEvents ⟨h.events.1, by simp⟩ rfl rfl rfl rfl

theorem after_clearReported (h : s.BlockLawful) : (clearReported s).BlockLawful :=
  h.withControlEvents ⟨rfl, rfl⟩ rfl rfl rfl rfl

/-! ### Shared operations (Ops.lean) -/

theorem after_issue (h : s.BlockLawful) (l : Branch) (m : ModemMessage) : (issue l m s).BlockLawful := h.withModem _

theorem after_issueBoth (h : s.BlockLawful) (m : ModemMessage) : (issueBoth m s).BlockLawful :=
  (h.after_issue .a m).after_issue .b m

theorem after_sendReceiveOrder (h : s.BlockLawful) (start : Option Superframe) (p : Nat) :
    (sendReceiveOrder start p s).BlockLawful := h.after_issueBoth _

theorem after_publish (h : s.BlockLawful) : (publish s).BlockLawful :=
  h.withCapacity (publish_capacity_lawful h.capacity)

theorem after_sendCapacity (h : s.BlockLawful) (bytes : List Byte) : (sendCapacity bytes s).BlockLawful := h.withSent _

/-- A reply that finds room in the list, or leaves at once. -/
theorem after_reply (h : s.BlockLawful) (hroom : replyListFull s = false) (r : Reply) : (reply r s).BlockLawful := by
  obtain ⟨-, hr⟩ | ⟨hheld, hr⟩ := reply_cases r s
  · rw [hr]; exact h.after_sendCapacity _
  · rw [hr]
    obtain ⟨-, -, hdown, hgeneration⟩ := h.capacity
    have hlt : ¬ Config.replyListSize ≤ s.capacity.replies.length := by
      simpa [replyListFull, Option.isSome_iff_ne_none.2 hheld] using hroom
    have hlength : (s.capacity.replies ++ [r]).length ≤ 8 := by
      rw [List.length_append]; exact Nat.lt_of_not_le hlt
    exact h.withCapacity ⟨hlength, fun e => absurd e hheld, hdown, hgeneration⟩

theorem after_placeAlert (h : s.BlockLawful) (x : CapacityAlert) : (placeAlert x s).BlockLawful := by
  unfold placeAlert
  split
  · split
    · exact h.after_sendCapacity _
    · rename_i hheld
      obtain ⟨hreplies, -, hdown, hgeneration⟩ := h.capacity
      exact h.withCapacity ⟨hreplies, fun e => by simp [hheld] at e, hdown, hgeneration⟩
  · exact h

theorem after_requestAlert (h : s.BlockLawful) (p : Nat) (switch : Option Superframe) :
    (requestAlert p switch s).BlockLawful := h.after_placeAlert _

/-! ### The transmit engine (Transmit.lean) -/

theorem after_recordCommit (h : s.BlockLawful) (p lead : Nat) (x y : Bool) :
    (recordCommit p lead x y s).BlockLawful := by
  unfold recordCommit
  split
  · exact h
  · exact (h.updateTae _).after_publish

theorem after_commitAlert (h : s.BlockLawful) : (commitAlert s).BlockLawful := by
  unfold commitAlert
  split
  · split
    · exact h.after_requestAlert _ _
    · exact h
  · exact h

theorem after_makeCommit (h : s.BlockLawful) (p lead : Nat) (x y : Bool) : (makeCommit p lead x y s).BlockLawful :=
  (h.after_recordCommit p lead x y).after_commitAlert

theorem after_becomeSteady (h : s.BlockLawful) : (becomeSteady s).BlockLawful := h.updateTae _

theorem after_completeSwitch (h : s.BlockLawful) (q : Nat) : (completeSwitch q s).BlockLawful :=
  ((h.updateTae _).after_raise _).after_publish

theorem after_fallback (h : s.BlockLawful) : (fallback s).BlockLawful := by
  unfold fallback
  split
  · split
    · exact h
    · exact h.after_becomeSteady.after_makeCommit _ _ _ _
  · split
    · split
      · split
        · exact h.after_becomeSteady.after_publish
        · exact h
      · split
        · exact h
        · exact h.after_becomeSteady.after_makeCommit _ _ _ _
    · exact h.updateTae _

theorem after_startDrain (h : s.BlockLawful) (p : Nat) : (startDrain p s).BlockLawful :=
  (h.updateTae _).after_publish.after_requestAlert _ _

theorem after_retarget (h : s.BlockLawful) (p timer limit : Nat) : (retarget p timer limit s).BlockLawful :=
  (h.updateTae _).after_publish.after_requestAlert _ _

theorem after_targetSteady (h : s.BlockLawful) (p : Nat) (k : RequestKind) : (targetSteady p k s).BlockLawful := by
  unfold targetSteady
  split
  · exact h
  · split
    · exact h.after_makeCommit _ _ _ _
    · split
      · exact h.after_makeCommit _ _ _ _
      · exact h.after_startDrain p

theorem after_targetDraining (h : s.BlockLawful) (d timer limit p : Nat) (k : RequestKind) :
    (targetDraining d timer limit p k s).BlockLawful := by
  unfold targetDraining
  split
  · exact h.after_becomeSteady.after_publish.after_targetSteady p k
  · split
    · exact h.after_becomeSteady.after_makeCommit _ _ _ _
    · split
      · exact h.after_retarget p timer limit
      · exact h

theorem after_targetCommitted (h : s.BlockLawful) (q : Commit) (p : Nat) (k : RequestKind) :
    (targetCommitted q p k s).BlockLawful := by
  unfold targetCommitted
  split
  · exact h.after_makeCommit _ _ _ _
  · exact h

theorem after_handleTarget (h : s.BlockLawful) (p : Nat) (k : RequestKind) : (handleTarget p k s).BlockLawful := by
  unfold handleTarget
  split
  · exact h.after_targetSteady p k
  · exact h.after_targetDraining _ _ _ p k
  · exact h.after_targetCommitted _ p k

theorem after_takeRequest (h : s.BlockLawful) (r : Request) : (takeRequest r s).BlockLawful := by
  unfold takeRequest
  split
  · split
    · exact h.updateTae _
    · exact h.after_handleTarget _ _
  · exact h

theorem after_setAttenuation (h : s.BlockLawful) {a : Nat} (ha : PowerHolds s.params a) :
    (setAttenuation a s).BlockLawful := h.withTae ha

theorem after_takePower (h : s.BlockLawful) (p : PowerRequest) : (takePower p s).BlockLawful := by
  unfold takePower
  split
  · exact h.after_setAttenuation (powerHolds_attMin h.params)
  · exact h

theorem after_taeHandOff (h : s.BlockLawful) (f : PeerFields) : (taeHandOff f s).BlockLawful :=
  (h.after_takePower f.power).after_takeRequest f.request

theorem after_slewStrobe (h : s.BlockLawful) : (slewStrobe s).BlockLawful := by
  unfold slewStrobe
  split
  · exact h.withTae (slewed_powerHolds h.power h.params _)
  · exact h.updateTae _

theorem after_timeOutDrain (h : s.BlockLawful) (d : Nat) : (timeOutDrain d s).BlockLawful :=
  (((h.updateTae _).after_raise _).after_becomeSteady).after_makeCommit _ _ _ _

theorem after_drainStrobe (h : s.BlockLawful) : (drainStrobe s).BlockLawful := by
  unfold drainStrobe
  split
  · split
    · exact h.after_timeOutDrain _
    · exact h.updateTae _
  · exact h

theorem after_taeStrobe (h : s.BlockLawful) : (taeStrobe s).BlockLawful := h.after_drainStrobe.after_slewStrobe

/-! ### The Capacity Link (CapacityLink.lean) -/

theorem after_abortRead (h : s.BlockLawful) (n : Nat) : (abortRead n s).BlockLawful := by
  unfold abortRead
  split
  · exact h
  · exact h.after_sendCapacity _

theorem after_capacityReset (h : s.BlockLawful) (n : Nat) : (capacityReset n s).BlockLawful :=
  (h.after_abortRead n).withCapacity (CapacityLink.ended_lawful h.capacity false)

theorem after_startRead (h : s.BlockLawful) (ht : capacityTakes s = true) : (startRead s).BlockLawful := by
  simp only [capacityTakes, Bool.and_eq_true, Bool.not_eq_true'] at ht
  obtain ⟨hup, hroom⟩ := ht
  unfold startRead
  split
  · obtain ⟨hreplies, -, -, hgeneration⟩ := h.capacity
    exact h.withCapacity ⟨hreplies, by simp, fun e => by simp [hup] at e, hgeneration⟩
  · exact h.after_reply hroom _

theorem after_sendReplies (h : s.BlockLawful) (rs : List Reply) : (sendReplies rs s).BlockLawful := by
  induction rs generalizing s with
  | nil => exact h
  | cons r rest ih => exact ih (h.after_sendCapacity r.bytes)

theorem after_sendAlert (h : s.BlockLawful) (x : Option CapacityAlert) : (sendAlert x s).BlockLawful := by
  cases x with
  | none => exact h
  | some x => exact h.after_sendCapacity _

theorem after_endRead (h : s.BlockLawful) (b : Buffer) : (endRead b s).BlockLawful :=
  (((h.after_sendCapacity _).after_sendReplies _).after_sendAlert _).withCapacity
    (CapacityLink.ended_lawful h.capacity s.capacity.framing)

theorem after_answerLate (h : s.BlockLawful) (hroom : replyListFull s = false) (p : BitVec 4) :
    (answerLate p s).BlockLawful :=
  (h.updateTae { s.tae with
    counters := { s.tae.counters with lateAnswers := s.tae.counters.lateAnswers + 1 } }).after_reply hroom _

/-- A commit leaves the reply list as it was. -/
theorem replyListFull_recordCommit (p lead : Nat) (x y : Bool) (t : State) :
    replyListFull (recordCommit p lead x y t) = replyListFull t := by
  unfold recordCommit
  split
  · rfl
  · simp [replyListFull]

theorem after_answerAccepted (h : s.BlockLawful) (hroom : replyListFull s = false) (p : BitVec 4) :
    (answerAccepted p s).BlockLawful := by
  refine ((h.after_becomeSteady.after_recordCommit _ _ _ _).after_reply ?_ _).after_commitAlert
  rw [replyListFull_recordCommit]
  exact hroom

theorem after_handleDrainReady (h : s.BlockLawful) (ht : capacityTakes s = true) (p : BitVec 4) :
    (handleDrainReady p s).BlockLawful := by
  simp only [capacityTakes, Bool.and_eq_true, Bool.not_eq_true'] at ht
  unfold handleDrainReady
  split
  · exact h.after_answerAccepted ht.2 p
  · exact h.after_answerLate ht.2 p

/-! ### The receive engine (Receive.lean) -/

theorem after_stallStep (h : s.BlockLawful) : (stallStep s).BlockLawful := by
  unfold stallStep
  split
  · exact (h.withRae _).after_raiseIf _ _
  · exact h.withRae _

theorem after_raeEvaluate (h : s.BlockLawful) : (raeEvaluate s).BlockLawful := by
  unfold raeEvaluate
  split
  · exact h
  · have hbegins : (evaluationBegins s).BlockLawful := (h.withRae _).withUnpinned _
    have hdecides : (evaluationDecides s).BlockLawful := hbegins.withRae _
    exact hdecides.after_stallStep.withRae _

theorem after_raeOverflow (h : s.BlockLawful) : (raeOverflow s).BlockLawful := by
  unfold raeOverflow
  split
  · exact h
  · exact h.withRae _

theorem after_seeCommit (h : s.BlockLawful) (k : Option Commit) : (seeCommit k s).BlockLawful := by
  unfold seeCommit
  split
  · exact h
  · split
    · exact h.withRae _
    · split
      · exact h
      · split
        · split
          · exact h
          · exact ((h.withRae _).after_sendReceiveOrder _ _).after_publish
        · exact ((h.withRae _).after_sendReceiveOrder _ _).after_publish

theorem after_clearBursts (h : s.BlockLawful) : (clearBursts s).BlockLawful :=
  h.withMonitor fun l => by
    cases l with
    | a => exact Monitor.withBurst_lawful (h.monitor .a) (Nat.zero_le _)
    | b => exact Monitor.withBurst_lawful (h.monitor .b) (Nat.zero_le _)

theorem after_completeCommit (h : s.BlockLawful) (q : Nat) : (completeCommit q s).BlockLawful :=
  ((h.after_clearBursts.withRae _).after_raise _).after_publish

theorem after_followHeader (h : s.BlockLawful) (p : Nat) (m : Superframe) : (followHeader p m s).BlockLawful :=
  (((h.withRae _).after_raise _).after_sendReceiveOrder _ _).after_publish

theorem after_countHeader (h : s.BlockLawful) (x : Header) : (countHeader x s).BlockLawful := by
  unfold countHeader
  split
  · exact h.withRae _
  · split
    · exact h.withRae _
    · exact h.withRae _

theorem after_takeHeader (h : s.BlockLawful) (x : Header) : (takeHeader x s).BlockLawful := by
  unfold takeHeader
  split
  · exact h.after_completeCommit _
  · split
    · split
      · exact (h.after_countHeader x).after_followHeader _ _
      · exact h.after_countHeader x
    · exact h

theorem after_raeHeader (h : s.BlockLawful) (l : Branch) (x : Header) : (raeHeader l x s).BlockLawful := by
  unfold raeHeader
  split
  · exact h.after_takeHeader x
  · exact h

theorem after_raeStart (h : s.BlockLawful) : (raeStart s).BlockLawful := (h.withRae _).after_sendReceiveOrder _ _

/-! ### The Link Supervisor (Supervisor.lean) -/

theorem after_changeLink (h : s.BlockLawful) (new : LinkState) {act : State → State}
    (hact : ∀ t : State, t.BlockLawful → (act t).BlockLawful) : (changeLink new act s).BlockLawful :=
  ((hact _ (h.withLink new)).after_raise _).after_publish

theorem after_changeLink_id (h : s.BlockLawful) (new : LinkState) : (changeLink new id s).BlockLawful :=
  h.after_changeLink new fun _ ht => ht

theorem after_changeLink_fallback (h : s.BlockLawful) (new : LinkState) : (changeLink new fallback s).BlockLawful :=
  h.after_changeLink new fun _ ht => ht.after_fallback

theorem after_compareInAcquire (h : s.BlockLawful) (r : WaitReason) : (compareInAcquire r s).BlockLawful := by
  unfold compareInAcquire
  split
  · exact h.after_changeLink_id _
  · split
    · exact h
    · exact (h.after_changeLink_id _).after_raise _

theorem after_enterMismatch_fallback (h : s.BlockLawful) : (enterMismatch fallback s).BlockLawful :=
  (h.after_changeLink_fallback _).after_raise _

theorem after_supervisorHandOff (h : s.BlockLawful) : (supervisorHandOff s).BlockLawful := by
  unfold supervisorHandOff
  split
  · split
    · exact h.after_compareInAcquire _
    · split
      · exact h
      · exact h.after_enterMismatch_fallback
    · split
      · exact h
      · exact h.after_enterMismatch_fallback
    · exact h
    · exact h
  · exact h

theorem after_supervisorDown (h : s.BlockLawful) : (supervisorDown s).BlockLawful := by
  unfold supervisorDown
  split
  · exact h.after_changeLink_fallback _
  · exact h.after_changeLink_fallback _
  · split
    · exact h
    · exact h.after_changeLink_id _
  · exact h
  · exact h

theorem after_supervisorLadder (h : s.BlockLawful) : (supervisorLadder s).BlockLawful := by
  unfold supervisorLadder
  split
  · split
    · exact h.after_compareInAcquire _
    · exact h
  · exact h

theorem after_supervisorOverflow (h : s.BlockLawful) : (supervisorOverflow s).BlockLawful := by
  unfold supervisorOverflow
  split
  · exact (h.after_changeLink_id _).after_raise _
  · exact h

/-! ### The Branch Monitors (Monitor.lean) -/

theorem after_overflowNotice (h : s.BlockLawful) (l : Branch) : (overflowNotice l s).BlockLawful := by
  unfold overflowNotice
  split
  · exact h.after_raeOverflow.after_supervisorOverflow
  · exact h

theorem after_monitorReport (h : s.BlockLawful) (l : Branch) (r : Report) : (monitorReport l r s).BlockLawful := by
  have hstep : (monitorStep l r s).BlockLawful :=
    h.setMonitor l (Monitor.burstStep_lawful (Monitor.measured_lawful (h.monitor l) _ r) _)
  unfold monitorReport
  split
  · exact ((hstep.after_raiseIf _ _).after_raise _).after_overflowNotice l
  · exact hstep.after_raiseIf _ _

theorem after_linkLost (h : s.BlockLawful) (l : Branch) : (linkLost l s).BlockLawful :=
  ((h.withModem (s.modem.set l ⟨false, []⟩)).setMonitor l (Monitor.linkDown_lawful (h.monitor l))).after_raise _

theorem after_messageSent (h : s.BlockLawful) (l : Branch) : (messageSent l s).BlockLawful := by
  unfold messageSent
  split
  · exact h
  · exact (h.withSent _).withModem _

/-! ### The Diversity Selector (Evaluation.lean) -/

theorem after_settleMode (h : s.BlockLawful) : (settleMode s).BlockLawful := by
  unfold settleMode
  split
  · exact h.updateSelector _ (Nat.zero_le _)
  · exact h

/-- Below the selection dwell, which is at most 1000, the dwell count has room for one more (R55). -/
theorem after_switchingStep (h : s.BlockLawful) : (switchingStep s).BlockLawful := by
  unfold switchingStep
  split
  · exact (h.updateSelector _ (Nat.zero_le _)).after_raise _
  · rename_i hswitch
    split
    · rename_i hbetter
      have hdwell : ¬ s.params.selectDwell ≤ s.selector.dwell + 1 := by
        simp only [switches, hbetter, Bool.or_eq_true, Bool.true_and, decide_eq_true_eq, not_or] at hswitch
        exact hswitch.2
      have hparams := h.params
      unfold Params.Lawful at hparams
      exact h.updateSelector _ (by dsimp only; omega)
    · exact h.updateSelector _ (Nat.zero_le _)

theorem after_chooseActive (h : s.BlockLawful) : (chooseActive s).BlockLawful := by
  unfold chooseActive
  split
  · exact h.after_switchingStep
  · exact h

theorem after_storeEstimate (h : s.BlockLawful) : (storeEstimate s).BlockLawful :=
  h.withSelector ((selector_inRange_iff _).2 ⟨h.selector.1, formEstimate_inRange h.monitor _⟩)

theorem after_orderStep (h : s.BlockLawful) (first : Bool) : (orderStep first s).BlockLawful := by
  unfold orderStep sendBranchOrder
  split
  · exact State.BlockLawful.after_issueBoth (h.updateSelector _ (by exact h.selector.1)) _
  · exact h

theorem after_selectorEvaluate (h : s.BlockLawful) : (selectorEvaluate s).BlockLawful := by
  have hprepared : (selectorPrepared s).BlockLawful := h.after_settleMode.withSelector h.after_settleMode.selector
  exact hprepared.after_chooseActive.after_storeEstimate.after_orderStep _

theorem after_evaluate (h : s.BlockLawful) : (evaluate s).BlockLawful := h.after_selectorEvaluate.after_raeEvaluate

/-! ### The Control Link's frames (Frames.lean) -/

theorem after_sendControl (h : s.BlockLawful) (bytes : List Byte) : (sendControl bytes s).BlockLawful := h.withSent _

/-- Dropping the oldest held frame. -/
theorem dropFrame (h : s.BlockLawful) {x : HeldFrame} {rest : List HeldFrame} (hx : s.control.frames = x :: rest) :
    (s.withControl { s.control with frames := rest }).BlockLawful :=
  h.withControlStore (storeHolds_drop (x := x) (hx ▸ h.store)) rfl rfl rfl rfl

theorem after_answerFailed (h : s.BlockLawful) {frames : List HeldFrame} (hf : s.control.frames = frames) :
    (answerFailed frames s).BlockLawful := by
  induction frames generalizing s with
  | nil => exact h
  | cons x rest ih =>
    cases x with
    | complete bytes => exact h
    | failed bytes => exact ih ((h.dropFrame hf).after_sendControl _) rfl

theorem after_respond (h : s.BlockLawful) (r : Response) : (respond r s).BlockLawful :=
  (h.after_sendControl _).after_answerFailed rfl

theorem of_turn (h : s.BlockLawful) {c : Instr} {t : State} (ht : turn c s = some t) : t.BlockLawful := by
  obtain rfl | ⟨f, rest, hf, rfl⟩ := turn_eq_some ht
  · exact h
  · exact h.dropFrame hf

/-- A command keeps the laws when it does so from the state in which its turn finds it. -/
theorem after_onTurn (h : s.BlockLawful) (c : Instr) {act : State → State}
    (hact : ∀ t : State, t.BlockLawful → (act t).BlockLawful) : (onTurn c act s).BlockLawful := by
  cases ht : turn c s with
  | none => rw [onTurn_of_none ht]; exact h
  | some t => rw [onTurn_of_some ht]; exact hact t (h.of_turn ht)

theorem of_turnOfFrame (h : s.BlockLawful) {f : List Byte} {t : State} (ht : turnOfFrame f s = some t) :
    t.BlockLawful := by
  unfold turnOfFrame at ht
  split at ht
  · cases ht
  · split at ht
    · cases ht
      exact h
    · rename_i hf
      split at ht
      · cases ht
        exact h.dropFrame hf
      · cases ht
    · cases ht

/-- A frame fails whose held bytes fit the store with the frames before it. -/
theorem after_failFrame (h : s.BlockLawful) {bytes : List Byte}
    (hb : (s.control.frames.map HeldFrame.size).sum + bytes.length ≤ 512) : (failFrame bytes s).BlockLawful := by
  obtain ⟨hf, -, hfail⟩ | ⟨-, hfail⟩ := failFrame_cases bytes s
  · rw [hfail]
    have hcleared : (s.withControl { s.control with incomplete := [], lost := none, frameStrobes := 0 }).BlockLawful :=
      h.withControlStore (storeHolds_ended (by simp [hf])) rfl rfl rfl rfl
    exact hcleared.after_respond _
  · rw [hfail]
    exact h.withControlStore (storeHolds_ended (by simpa [HeldFrame.size] using hb)) rfl rfl rfl rfl

theorem after_lossyByte (h : s.BlockLawful) (b : Byte) {held : List Byte}
    (hb : (s.control.frames.map HeldFrame.size).sum + held.length ≤ 512) : (lossyByte b held s).BlockLawful := by
  obtain ⟨-, hl⟩ | ⟨x, hx, -, hl⟩ := lossyByte_cases b held s
  · rw [hl]; exact h.after_failFrame hb
  · rw [hl]; exact h.withControlStore ⟨hb, by simp, by simp, by simpa using hx⟩ rfl rfl rfl rfl

theorem after_arriveByte (h : s.BlockLawful) (b : Byte) : (arriveByte b s).BlockLawful := by
  obtain ⟨hsize, -, -, -⟩ := h.store
  obtain ⟨-, ha⟩ | ⟨hlt, -, ha⟩ | ⟨hlt, hlost, ha⟩ := arriveByte_cases b s
  · rw [ha]; exact h.after_lossyByte b hsize
  · rw [ha]
    simp only [ControlLink.stored] at hlt
    refine h.after_lossyByte b ?_
    simp only [List.length_append, List.length_singleton]
    omega
  · rw [ha]
    simp only [ControlLink.stored] at hlt
    unfold ControlLink.takeByte
    split
    · refine h.withControlStore ⟨?_, by simp, fun _ => rfl, by simp [hlost]⟩ rfl rfl rfl rfl
      simp [HeldFrame.size]
      omega
    · rename_i hc
      refine h.withControlStore ⟨?_, by simp, fun _ => by simpa using hc, by simp [hlost]⟩ rfl rfl rfl rfl
      simp
      omega

theorem after_frameStrobe (h : s.BlockLawful) : (frameStrobe s).BlockLawful := by
  obtain ⟨hsize, -, hincomplete, hlost⟩ := h.store
  unfold frameStrobe
  split
  · exact h.after_failFrame (by simp only [List.length_nil]; omega)
  · rename_i ht
    split
    · rename_i hmid
      have hlt : ¬ Config.frameStrobeLimit ≤ s.control.frameStrobes + 1 := by simpa [frameTimesOut, hmid] using ht
      exact h.withControlStore ⟨hsize, Nat.lt_of_not_le hlt, hincomplete, hlost⟩ rfl rfl rfl rfl
    · exact h

end State.BlockLawful

end Sys2Proof.Machine
end

section
/-! PROOFS. Every command keeps the laws of the single blocks: O58. -/

namespace Sys2Proof.Machine

theorem reset_blockLawful : State.reset.BlockLawful where
  params := by decide
  ladder := by decide +kernel
  power := by unfold PowerHolds; decide
  selector := by decide
  peer := PeerChannel.reset_lawful
  monitor l := by cases l <;> exact Monitor.reset_lawful _
  fade l := by cases l <;> exact FadeClassifier.reset_lawful
  capacity := CapacityLink.resetWith_lawful false
  control := ControlLink.reset_lawful

namespace State.BlockLawful

variable {s : State}

/-! ### The Control Link's own commands (ControlCommands.lean) -/

/-- A parameter that is no burst threshold and not the mode acts on the attenuation alone (R136, R171). -/
theorem after_storeParameter (h : s.BlockLawful) {which : ParamId} {x : Int}
    (hx : which.range.1 ≤ x ∧ x ≤ which.range.2) (hc : s.params.consistent which x = true) :
    (storeParameter which x s).BlockLawful := by
  have hparams := Params.store_lawful h.params hx hc
  have hpower := attenuationAfter_powerHolds h.power hparams
  cases which with
  | burstThresholdA =>
    exact ⟨hparams, h.ladder, h.power, h.selector, h.peer, fun l => by
      cases l with
      | a => exact Monitor.capBurst_lawful (h.monitor .a) _
      | b => exact h.monitor .b, h.fade, h.capacity, h.control⟩
  | burstThresholdB =>
    exact ⟨hparams, h.ladder, h.power, h.selector, h.peer, fun l => by
      cases l with
      | a => exact h.monitor .a
      | b => exact Monitor.capBurst_lawful (h.monitor .b) _, h.fade, h.capacity, h.control⟩
  | _ => exact ⟨hparams, h.ladder, hpower, h.selector, h.peer, h.monitor, h.fade, h.capacity, h.control⟩

theorem after_setParameter (h : s.BlockLawful) (identifier : Byte) (value : BitVec 32) :
    (setParameter identifier value s).BlockLawful := by
  unfold setParameter
  split
  · exact h.after_respond _
  · exact h.after_respond _
  · rename_i hj
    obtain ⟨hx, hc⟩ := Params.judge_take hj
    exact (h.after_storeParameter hx hc).after_respond _

theorem after_readParameter (h : s.BlockLawful) (identifier : Byte) : (readParameter identifier s).BlockLawful := by
  unfold readParameter
  split
  · exact h.after_respond _
  · exact h.after_respond _

theorem after_zeroCounters (h : s.BlockLawful) : (zeroCounters s).BlockLawful := by
  have hmonitor : (s.withMonitor
      ⟨{ s.monitor.a with counters := .zero }, { s.monitor.b with counters := .zero }⟩).BlockLawful :=
    h.withMonitor fun l => by
      cases l with
      | a => exact Monitor.withCounters_lawful (h.monitor .a) _
      | b => exact Monitor.withCounters_lawful (h.monitor .b) _
  exact ((hmonitor.withRae _).withPeer (PeerChannel.withCounters_lawful h.peer _)).updateTae _

/-! ### The Profile Ladder's commands (LadderCommands.lean) -/

theorem edit (h : s.BlockLawful) : s.ladder.edit.Lawful := by
  obtain ⟨-, hedit, -⟩ := h.ladder
  exact hedit

theorem after_writeLadderEntry (h : s.BlockLawful) (i : Byte) (f : EntryFields) :
    (writeLadderEntry i f s).BlockLawful := by
  have hwrite : (writeEdit i.toNat (storedEntry f) s).BlockLawful :=
    h.withLadder (ProfileLadder.withEdit_lawful h.ladder (Ladder.set_lawful h.edit _ (storedEntry_lawful f)))
  unfold writeLadderEntry
  split
  · exact h.after_respond _
  · split
    · exact hwrite.after_respond _
    · exact hwrite.after_respond _

theorem after_setLadderCount (h : s.BlockLawful) (n : Byte) : (setLadderCount n s).BlockLawful := by
  have hcount : appliedCount n.toNat ≤ 12 := by rw [appliedCount_eq]; omega
  exact State.BlockLawful.after_respond
    (h.withLadder (ProfileLadder.withEdit_lawful h.ladder (Ladder.withCount_lawful h.edit hcount))) _

theorem after_readLadderEntry (h : s.BlockLawful) (copy i : Byte) : (readLadderEntry copy i s).BlockLawful := by
  rw [readLadderEntry_eq]
  exact h.after_respond _

theorem after_revertEdit (h : s.BlockLawful) : (revertEdit s).BlockLawful :=
  h.withLadder (ProfileLadder.withEdit_lawful h.ladder (Ladder.trimmed_lawful h.ladder.1))

/-- Only an edit copy that passes validation is carried out (R12). -/
theorem failure_of_commitRefusal {s : State} (h : commitRefusal s = none) : s.ladder.edit.failure = none := by
  unfold commitRefusal at h
  split at h
  · cases h
  · split at h
    · cases h
    · split at h
      · cases h
      · assumption

theorem after_commitLadder (h : s.BlockLawful) : (commitLadder s).BlockLawful := by
  unfold commitLadder
  split
  · exact h.after_respond _
  · rename_i hr
    have hreplaced : (replaceActive s).BlockLawful :=
      h.withLadder (ProfileLadder.commit_lawful h.ladder (failure_of_commitRefusal hr))
    refine State.BlockLawful.after_respond ?_ _
    unfold carryOutCommit
    split
    · exact hreplaced.after_supervisorLadder.after_publish
    · exact hreplaced.after_supervisorLadder

/-! ### The Peer Channel (Peer.lean) -/

/-- Entering DOWN needs of the channel before it only what DOWN keeps: the foreign counter and the ring (R76). -/
theorem after_enterDown (h : s.BlockLawful) {k : PeerChannel} (hforeign : k.foreign ≤ 254)
    (hring : k.ring.length ≤ 16) : (enterDown (s.withPeer k)).BlockLawful := by
  have hdown : (s.withPeer k.entersDown).BlockLawful := h.withPeer (PeerChannel.entersDown_lawful hforeign hring)
  have hnotified := (hdown.after_raiseIf (decide (k.state = .up)) .peerDown).after_supervisorDown
  refine hnotified.after_setAttenuation ?_
  have hparams : (supervisorDown (raiseIf (decide (k.state = .up)) .peerDown (s.withPeer k.entersDown))).params
      = s.params := by simp
  rw [hparams]
  exact powerHolds_attMin h.params

theorem after_acceptWord (h : s.BlockLawful) (m : Superframe) (w : OverheadWord) : (acceptWord m w s).BlockLawful := by
  have hopen := PeerChannel.taken_open h.peer m w
  unfold acceptWord
  split
  · exact (h.after_raise .echoFault).after_enterDown hopen.foreign hopen.ring
  · rename_i hfault
    have htaken := h.withPeer (PeerChannel.taken_lawful h.peer m w (by simpa using hfault))
    exact ((htaken.after_raiseIf _ _).after_supervisorHandOff.after_seeCommit _).after_taeHandOff _

theorem after_checkOrder (h : s.BlockLawful) (m : Superframe) (w : OverheadWord) : (checkOrder m w s).BlockLawful := by
  unfold checkOrder
  split
  · exact h
  · split
    · exact h.after_acceptWord m w
    · exact h.withPeer (PeerChannel.withCounters_lawful h.peer _)

theorem after_foreignWord (h : s.BlockLawful) : (foreignWord s).BlockLawful := by
  refine State.BlockLawful.after_raiseIf (h.withPeer (PeerChannel.withForeign_lawful h.peer ?_ _)) _ _
  have hparams := h.params
  unfold Params.Lawful at hparams
  split
  · exact Nat.zero_le _
  · rename_i hreached
    simp only [foreignReached, decide_eq_true_eq] at hreached
    omega

theorem after_passIdentity (h : s.BlockLawful) : (passIdentity s).BlockLawful := by
  obtain ⟨-, -, -, -, hforeign, -⟩ := h.peer
  exact h.withPeer (PeerChannel.withForeign_lawful h.peer (by omega) s.peer.counters)

theorem after_checkWord (h : s.BlockLawful) (m : Superframe) (bytes : List Byte) :
    (checkWord m bytes s).BlockLawful := by
  unfold checkWord
  split
  · unfold checkIdentity
    split
    · exact h.after_passIdentity.after_checkOrder m _
    · exact h.after_foreignWord
  · exact h.withPeer (PeerChannel.withCounters_lawful h.peer _)

theorem after_silenceStrobe (h : s.BlockLawful) : (silenceStrobe s).BlockLawful := by
  obtain ⟨-, -, -, -, hforeign, -, -, hring⟩ := h.peer
  unfold silenceStrobe
  split
  · exact h
  · rename_i hstate
    split
    · exact h.after_enterDown hforeign hring
    · rename_i hreached
      have hparams := h.params
      unfold Params.Lawful at hparams
      simp only [silenceReached, hstate, ne_eq, not_false_eq_true, decide_true, Bool.true_and,
        decide_eq_true_eq] at hreached
      exact h.withPeer (PeerChannel.withSilence_lawful h.peer (by omega) hstate)

/-! ### The Link Supervisor's commands (LinkCommands.lean) -/

theorem after_peerStop (h : s.BlockLawful) : (peerStop s).BlockLawful := by
  obtain ⟨-, -, -, -, hforeign, -, -, hring⟩ := h.peer
  unfold peerStop
  split
  · exact h
  · exact h.after_enterDown (k := s.peer) hforeign hring

theorem after_startCommand (h : s.BlockLawful) : (startCommand s).BlockLawful := by
  unfold startCommand
  split
  · exact h.after_respond _
  · split
    · exact h.after_respond _
    · exact State.BlockLawful.after_respond
        (h.after_changeLink _ fun t ht => ht.after_raeStart.withTae (powerHolds_attMin ht.after_raeStart.params)) _

theorem after_stopCommand (h : s.BlockLawful) : (stopCommand s).BlockLawful := by
  unfold stopCommand
  split
  · exact h.after_respond _
  · exact State.BlockLawful.after_respond
      (h.after_changeLink _ fun t ht => (ht.after_peerStop.withRae _).updateTae _) _

theorem after_holdCommand (h : s.BlockLawful) : (holdCommand s).BlockLawful := by
  unfold holdCommand
  split
  · exact (h.after_changeLink_fallback _).after_respond _
  · exact (h.after_changeLink_fallback _).after_respond _
  · exact (h.after_changeLink_id _).after_respond _
  · exact h.after_respond _
  · exact h.after_respond _

theorem after_resumeCommand (h : s.BlockLawful) : (resumeCommand s).BlockLawful := by
  unfold resumeCommand
  split
  · exact (h.after_changeLink_id _).after_respond _
  · exact h.after_respond _

theorem after_pinCommand (h : s.BlockLawful) (p : Byte) : (pinCommand p s).BlockLawful := by
  unfold pinCommand
  split
  · exact h.after_respond _
  · split
    · exact h.after_respond _
    · split
      · exact h.after_respond _
      · split
        · exact h.after_respond _
        · exact (h.after_changeLink_id _).after_respond _

theorem after_unpinCommand (h : s.BlockLawful) : (unpinCommand s).BlockLawful := by
  unfold unpinCommand
  split
  · exact ((h.after_changeLink_id _).withUnpinned _).after_respond _
  · exact h.after_respond _

theorem after_setExclusion (h : s.BlockLawful) (code : Byte) (x : Bool) : (setExclusion code x s).BlockLawful := by
  unfold setExclusion
  split
  · exact State.BlockLawful.after_respond (h.updateSelector _ (by exact h.selector.1)) _
  · exact h.after_respond _

/-! ### Reports (Fade.lean, Report.lean) -/

theorem after_fadeReport (h : s.BlockLawful) (l : Branch) (sample : Option Nat) :
    (fadeReport l sample s).BlockLawful := by
  have hclassified := h.setFade l (classify_lawful h.params (h.fade l)
    (fun e => fadeTest_onset (t := s.params.fadeThreshold.get l) (y := s.params.fadeHysteresis) (x := sample) e))
  exact (((hclassified.setMonitor l (Monitor.withCounters_lawful (h.monitor l) _)).after_raiseIf _ _).after_raiseIf
    _ _).after_raiseIf _ _

theorem after_handleReport (h : s.BlockLawful) (l : Branch) (r : Report) : (handleReport l r s).BlockLawful := by
  have hclassified : (reportClassified l r s).BlockLawful := (h.after_monitorReport l r).after_fadeReport l _
  have hworded : (reportWorded l r s).BlockLawful := by
    unfold reportWorded wordStep
    split
    · exact hclassified.after_checkWord _ _
    · exact hclassified
  unfold handleReport headerStep
  split
  · exact hworded.after_raeHeader l _
  · exact hworded

theorem after_reportWhen (h : s.BlockLawful) (l : Branch) (message : List Byte) (when : Report → Bool) :
    (reportWhen l message when s).BlockLawful := by
  unfold reportWhen
  split
  · split
    · exact h.after_handleReport l _
    · exact h
  · exact h

theorem after_aged (h : s.BlockLawful) : (s.withMonitor ⟨s.monitor.a.aged, s.monitor.b.aged⟩).BlockLawful :=
  h.withMonitor fun l => by
    cases l with
    | a => exact Monitor.aged_lawful (h.monitor .a)
    | b => exact Monitor.aged_lawful (h.monitor .b)

/-! ### The slot request and the resets (SlotRequest.lean, Resets.lean) -/

theorem after_switchDue (h : s.BlockLawful) (n : Superframe) : (switchDue n s).BlockLawful := by
  unfold switchDue
  split
  · split
    · exact h.after_completeSwitch _
    · exact h
  · exact h

theorem after_serveFallback (h : s.BlockLawful) : (serveFallback s).BlockLawful := by
  unfold serveFallback
  split
  · split
    · exact State.BlockLawful.after_fallback (h.updateTae _)
    · exact h.updateTae _
  · exact h

theorem after_sendTransmitOrder (h : s.BlockLawful) (n : Superframe) : (sendTransmitOrder n s).BlockLawful := by
  unfold sendTransmitOrder
  split
  · exact h.after_issue _ _
  · exact (h.withPeer (PeerChannel.challenged_lawful h.peer)).after_issue _ _

theorem after_handleSlot (h : s.BlockLawful) (n : Superframe) : (handleSlot n s).BlockLawful :=
  ((h.updateTae { s.tae with lastSlot := some n }).after_switchDue n).after_serveFallback.after_sendTransmitOrder n

theorem after_softResetBlocks (h : s.BlockLawful) : (softResetBlocks s).BlockLawful where
  params := h.params
  ladder := h.after_revertEdit.ladder
  power := softAttenuation_powerHolds h.params
  selector := reset_blockLawful.selector
  peer := PeerChannel.reset_lawful
  monitor l := by cases l <;> exact Monitor.reset_lawful _
  fade l := by cases l <;> exact FadeClassifier.reset_lawful
  capacity := CapacityLink.resetWith_lawful _
  control := ControlLink.restarted_lawful _

theorem after_execTransmitSlotRequest (h : s.BlockLawful) (l : Branch) (m : List Byte) :
    ∃ t, execTransmitSlotRequest l m s = .next t ∧ t.BlockLawful := by
  refine ⟨_, rfl, ?_⟩
  split
  · split
    · exact h.after_handleSlot _
    · exact h
  · exact h

/-- A row that is the whole step of its arrival when its case comes about, and otherwise changes nothing
(assumption 2). -/
theorem ite (h : s.BlockLawful) {t : State} (ht : t.BlockLawful) (b : Prop) [Decidable b] :
    (if b then t else s).BlockLawful := by
  split
  · exact ht
  · exact h

theorem after_execUnknownCommand (h : s.BlockLawful) (f : List Byte) :
    ∃ t, execUnknownCommand f s = .next t ∧ t.BlockLawful := by
  refine ⟨_, rfl, ?_⟩
  split
  · rename_i ht
    exact (h.of_turnOfFrame ht).after_respond _
  · exact h

theorem after_execCapacityLinkUp (h : s.BlockLawful) : ∃ t, execCapacityLinkUp s = .next t ∧ t.BlockLawful := by
  obtain ⟨hreplies, hidle, -, hgeneration⟩ := h.capacity
  exact ⟨_, rfl, h.withCapacity ⟨hreplies, hidle, by simp, hgeneration⟩⟩

theorem after_execCapacityRead (h : s.BlockLawful) (m : List Byte) :
    ∃ t, execCapacityRead m s = .next t ∧ t.BlockLawful := by
  refine ⟨_, rfl, ?_⟩
  split
  · rename_i ht
    obtain ⟨-, htakes⟩ := Bool.and_eq_true_iff.1 ht
    exact h.after_startRead htakes
  · exact h

theorem after_execEndOfRead (h : s.BlockLawful) : ∃ t, execEndOfRead s = .next t ∧ t.BlockLawful := by
  refine ⟨_, rfl, ?_⟩
  split
  · exact h.after_endRead _
  · exact h

theorem after_execDrainReady (h : s.BlockLawful) (m : List Byte) :
    ∃ t, execDrainReady m s = .next t ∧ t.BlockLawful := by
  refine ⟨_, rfl, ?_⟩
  split
  · split
    · exact h.after_handleDrainReady ‹_› _
    · exact h
  · exact h

end State.BlockLawful

/-- Every command keeps the laws of the single blocks. -/
theorem exec_blockLawful (c : Instr) {s : State} (h : s.BlockLawful) : ∃ t, exec c s = .next t ∧ t.BlockLawful := by
  cases c with
  | powerOnReset => exact ⟨_, rfl, (reset_blockLawful.withSent s.sent).withPending s.pending⟩
  | softReset =>
    exact ⟨_, rfl, h.after_onTurn _ fun t ht =>
      (ht.after_sendControl _).withControlStore ht.store rfl rfl rfl rfl⟩
  | softResetTakesEffect n => exact ⟨_, rfl, h.ite (h.after_abortRead n).after_softResetBlocks _⟩
  | modemLinkDown l => exact ⟨_, rfl, h.ite (h.after_linkLost l) _⟩
  | modemLinkUp l => exact ⟨_, rfl, h.withModem _⟩
  | modemMessageSent l => exact ⟨_, rfl, h.after_messageSent l⟩
  | branchReport l m => exact ⟨_, rfl, h.after_reportWhen l m _⟩
  | burstOverflow l m => exact ⟨_, rfl, h.after_reportWhen l m _⟩
  | longFade l m => exact ⟨_, rfl, h.after_reportWhen l m _⟩
  | fastFadingOff l m => exact ⟨_, rfl, h.after_reportWhen l m _⟩
  | foreignSignal l m => exact ⟨_, rfl, h.after_reportWhen l m _⟩
  | peerUp l m => exact ⟨_, rfl, h.after_reportWhen l m _⟩
  | echoFault l m => exact ⟨_, rfl, h.after_reportWhen l m _⟩
  | headerFollow l m => exact ⟨_, rfl, h.after_reportWhen l m _⟩
  | transmitSlotRequest l m => exact h.after_execTransmitSlotRequest l m
  | reportAgeCount => exact ⟨_, rfl, h.after_aged⟩
  | evaluation => exact ⟨_, rfl, h.after_evaluate⟩
  | branchSwitched => exact ⟨_, rfl, h.ite h.after_evaluate _⟩
  | upshiftDwellReached => exact ⟨_, rfl, h.ite h.after_evaluate _⟩
  | requestStalled => exact ⟨_, rfl, h.ite h.after_evaluate _⟩
  | silenceCount => exact ⟨_, rfl, h.after_silenceStrobe⟩
  | peerTimeout => exact ⟨_, rfl, h.ite h.after_silenceStrobe _⟩
  | taeStrobe => exact ⟨_, rfl, h.after_taeStrobe⟩
  | drainTimeout => exact ⟨_, rfl, h.ite h.after_taeStrobe _⟩
  | slewStep => exact ⟨_, rfl, h.ite h.after_taeStrobe _⟩
  | capacityLinkUp => exact h.after_execCapacityLinkUp
  | capacityLinkReset n => exact ⟨_, rfl, h.ite (h.after_capacityReset n) _⟩
  | capacityRead m => exact h.after_execCapacityRead m
  | endOfRead => exact h.after_execEndOfRead
  | drainReady m => exact h.after_execDrainReady m
  | frameStrobeCount => exact ⟨_, rfl, h.after_frameStrobe⟩
  | frameTimeout => exact ⟨_, rfl, h.ite h.after_frameStrobe _⟩
  | unknownCommand f => exact h.after_execUnknownCommand f
  | readStatus => exact ⟨_, rfl, h.after_onTurn _ fun t ht => ht.after_noteReported.after_respond _⟩
  | clearEvents => exact ⟨_, rfl, h.after_onTurn _ fun t ht => ht.after_clearReported.after_respond _⟩
  | setEventMask m => exact ⟨_, rfl, h.after_onTurn _ fun t ht => (ht.after_setMask _).after_respond _⟩
  | readCounters => exact ⟨_, rfl, h.after_onTurn _ fun t ht => ht.after_respond _⟩
  | clearCounters => exact ⟨_, rfl, h.after_onTurn _ fun t ht => ht.after_zeroCounters.after_respond _⟩
  | setParameter i v => exact ⟨_, rfl, h.after_onTurn _ fun t ht => ht.after_setParameter i v⟩
  | readParameter i => exact ⟨_, rfl, h.after_onTurn _ fun t ht => ht.after_readParameter i⟩
  | writeLadderEntry i f => exact ⟨_, rfl, h.after_onTurn _ fun t ht => ht.after_writeLadderEntry i f⟩
  | readLadderEntry copy i => exact ⟨_, rfl, h.after_onTurn _ fun t ht => ht.after_readLadderEntry copy i⟩
  | setLadderCount n => exact ⟨_, rfl, h.after_onTurn _ fun t ht => ht.after_setLadderCount n⟩
  | commitLadder => exact ⟨_, rfl, h.after_onTurn _ fun t ht => ht.after_commitLadder⟩
  | revertLadder => exact ⟨_, rfl, h.after_onTurn _ fun t ht => ht.after_revertEdit.after_respond _⟩
  | start => exact ⟨_, rfl, h.after_onTurn _ fun t ht => ht.after_startCommand⟩
  | stop => exact ⟨_, rfl, h.after_onTurn _ fun t ht => ht.after_stopCommand⟩
  | hold => exact ⟨_, rfl, h.after_onTurn _ fun t ht => ht.after_holdCommand⟩
  | resume => exact ⟨_, rfl, h.after_onTurn _ fun t ht => ht.after_resumeCommand⟩
  | pin p => exact ⟨_, rfl, h.after_onTurn _ fun t ht => ht.after_pinCommand p⟩
  | unpin => exact ⟨_, rfl, h.after_onTurn _ fun t ht => ht.after_unpinCommand⟩
  | excludeBranch b => exact ⟨_, rfl, h.after_onTurn _ fun t ht => ht.after_setExclusion b true⟩
  | includeBranch b => exact ⟨_, rfl, h.after_onTurn _ fun t ht => ht.after_setExclusion b false⟩
  | controlLinkByteArrival b => exact ⟨_, rfl, h.after_arriveByte b⟩

/-- Settles O58: a step on an empty queue idles, and the command at the front keeps the laws. -/
theorem everyStepKeepsTheBlockLaws : Obligations.EveryStepKeepsTheBlockLaws := by
  intro s t hstep h
  rw [← blockLawful_iff] at h ⊢
  unfold step at hstep
  split at hstep
  · cases hstep
    exact h
  · rename_i c rest _
    obtain ⟨u, hu, hlawful⟩ := exec_blockLawful c (h.withPending rest)
    rw [hu] at hstep
    cases hstep
    exact hlawful

end Sys2Proof.Machine
end

section
/-! PROOFS. The reset state and the byte layouts of chapter 11: O3, O4, O5. -/

namespace Sys2Proof.Machine

/-! ### The reset state -/

theorem Ladder.empty_slot (i : Nat) : Ladder.empty.slot i = Entry.blank := by
  by_cases h : i < Config.slotCount
  · simp [Ladder.slot, Ladder.empty, h]
  · simp [Ladder.slot, h]

/-- Settles O3: every field by evaluation, the slots of both copies blank, the two branches alike. -/
theorem resetHoldsTheStatedValues : Obligations.ResetHoldsTheStatedValues := by
  refine ⟨rfl, rfl, fun i _ => ⟨Ladder.empty_slot i, Ladder.empty_slot i⟩, rfl, fun l => ?_, ?_⟩
  · cases l <;> exact ⟨rfl, rfl, rfl, rfl, rfl, rfl, rfl, rfl, rfl, rfl, rfl, rfl, rfl, rfl, rfl⟩
  · refine ⟨rfl, rfl, rfl, rfl, rfl, rfl, rfl, rfl, rfl, rfl, rfl, rfl, rfl, rfl, rfl, rfl, rfl, rfl, rfl, rfl, rfl,
      rfl, rfl, rfl, rfl, rfl, rfl, rfl, rfl, rfl, rfl, rfl, rfl, rfl, rfl, rfl, fun b => ?_, ?_⟩
    · cases b <;> rfl
    · decide

/-- The laws that tie the blocks together hold at rest in OFFLINE. -/
theorem reset_enginesLawful : State.reset.EnginesLawful :=
  ⟨reset_blockLawful.ladder, reset_blockLawful.params, reset_blockLawful.peer, by decide, by decide, by decide⟩

/-- Settles O4: the laws of the single blocks, then those that tie them together and the record of generation 0. -/
theorem lawsHoldAtReset : Obligations.LawsHoldAtReset := by
  have h := reset_blockLawful
  exact ⟨⟨reset_enginesLawful, h.power, rfl, h.monitor .a, h.monitor .b, h.fade .a, h.fade .b, h.capacity, h.control⟩,
    h.selector, by decide, by decide⟩

/-! ### Bits of a byte -/

/-- Bits side by side are a sum. -/
theorem toNat_append_eq_add {v w : Nat} (x : BitVec v) (y : BitVec w) :
    (x ++ y).toNat = x.toNat * 2 ^ w + y.toNat := by
  rw [BitVec.toNat_append, ← Nat.shiftLeft_add_eq_or_of_lt y.isLt, Nat.shiftLeft_eq]

/-- A byte is known by its value. -/
theorem eq_byteOf {b : Byte} {n : Nat} (h : b.toNat = n % 256) : b = byteOf n :=
  BitVec.eq_of_toNat_eq (by simpa [byteOf] using h)

theorem extractLsb'_eq_byteOf {w : Nat} (x : BitVec w) (k : Nat) : x.extractLsb' k 8 = byteOf (x.toNat / 2 ^ k) :=
  eq_byteOf (by simp [Nat.shiftRight_eq_div_pow])

/-- Two half-bytes of values below 16. -/
theorem nibbles_eq_byteOf {m n : Nat} (hn : n < 16) : BitVec.ofNat 4 m ++ BitVec.ofNat 4 n = byteOf (16 * m + n) :=
  eq_byteOf (by simp only [toNat_append_eq_add, BitVec.toNat_ofNat]; omega)

theorem toNat_ofBool_eq (b : Bool) : (BitVec.ofBool b).toNat = if b then 1 else 0 := by cases b <;> rfl

/-! ### The overhead word (R186) -/

/-- Byte 2: the low bits of the hop identity, and the adapt, echo-valid and commit-valid flags. -/
theorem wordFlags_eq_byteOf (hop : BitVec 20) (adapt echo commit : Bool) :
    (hop.extractLsb' 0 4 ++ BitVec.ofBool adapt ++ BitVec.ofBool echo ++ BitVec.ofBool commit ++ 0#1 : Byte)
      = byteOf (16 * (hop.toNat % 16) + (if adapt then 8 else 0) + (if echo then 4 else 0)
        + (if commit then 2 else 0)) := by
  apply eq_byteOf
  simp only [toNat_append_eq_add, toNat_ofBool_eq, BitVec.extractLsb'_toNat, BitVec.toNat_ofNat]
  cases adapt <;> cases echo <;> cases commit <;> simp <;> omega

/-- Byte 8: the request's profile and kind, and the power request. -/
theorem wordRequest_eq_byteOf {p k q : Nat} (hk : k < 4) (hq : q < 4) :
    (BitVec.ofNat 4 p ++ BitVec.ofNat 2 k ++ BitVec.ofNat 2 q : Byte) = byteOf (16 * p + 4 * k + q) := by
  apply eq_byteOf
  simp only [toNat_append_eq_add, BitVec.toNat_ofNat]
  omega

/-- Byte 9: a spare bit and the headroom. -/
theorem wordHeadroom_eq_byteOf {n : Nat} (hn : n < 128) : (0#1 ++ BitVec.ofNat 7 n : Byte) = byteOf n := by
  apply eq_byteOf
  simp only [toNat_append_eq_add, BitVec.toNat_ofNat]
  omega

theorem RequestKind.code_eq (k : RequestKind) : 4 * k.code = match k with
    | .none => 0
    | .normal => 4
    | .emergency => 8 := by cases k <;> rfl

theorem RequestKind.code_lt (k : RequestKind) : k.code < 4 := by cases k <;> decide

theorem PowerRequest.code_lt (p : PowerRequest) : p.code < 4 := by cases p <;> decide

/-! ### Orders to the modems (R188) -/

/-- A code byte of a modulation, a spare bit and a code class. -/
theorem modulation_eq_byteOf (m : BitVec 4) (c : BitVec 3) :
    (m ++ 0#1 ++ c : Byte) = byteOf (16 * m.toNat + c.toNat) := by
  apply eq_byteOf
  simp only [toNat_append_eq_add, BitVec.toNat_ofNat]
  have := c.isLt
  have := m.isLt
  omega

theorem receiveHeader_eq_byteOf (immediate : Bool) {p : Nat} (hp : p < 16) :
    (BitVec.ofBool immediate ++ 0#3 ++ BitVec.ofNat 4 p : Byte) = byteOf ((if immediate then 128 else 0) + p) := by
  apply eq_byteOf
  simp only [toNat_append_eq_add, toNat_ofBool_eq, BitVec.toNat_ofNat]
  cases immediate <;> simp <;> omega

theorem profile_eq_byteOf {p : Nat} (hp : p < 16) : (0#4 ++ BitVec.ofNat 4 p : Byte) = byteOf p := by
  apply eq_byteOf
  simp only [toNat_append_eq_add, BitVec.toNat_ofNat]
  omega

theorem spareNibble_eq_byteOf (p : BitVec 4) : (0#4 ++ p : Byte) = byteOf p.toNat := by
  apply eq_byteOf
  simp only [toNat_append_eq_add, BitVec.toNat_ofNat]
  have := p.isLt
  omega

theorem receiveOrder_bytes (o : ReceiveOrder) (h : o.profile < 16) :
    ModemMessage.bytes (.receive o) = sealMessage 0x11#8
      ([byteOf ((if o.start = none then 128 else 0) + o.profile)] ++ be16 (o.start.getD 0#16)
        ++ [byteOf (16 * o.modulation.toNat + o.codeClass.toNat)]) := by
  simp only [ModemMessage.bytes, ReceiveOrder.body, receiveHeader_eq_byteOf _ h, modulation_eq_byteOf,
    Option.isNone_iff_eq_none]

theorem transmitOrder_bytes (n : Superframe) (a : Nat) (x : TransmitContent) (h : x.profile < 16) :
    ModemMessage.bytes (.transmit ⟨n, a, some x⟩) = sealMessage 0x13#8 (be16 n
      ++ [byteOf x.profile, byteOf (16 * x.modulation.toNat + x.codeClass.toNat), byteOf a] ++ x.word) := by
  simp only [ModemMessage.bytes, TransmitOrder.body, profile_eq_byteOf h, modulation_eq_byteOf]

/-! ### The record (R189) -/

theorem TxPending.bytes_length (x : TxPending) : x.bytes.length = 8 := by cases x <;> rfl

theorem RxPending.bytes_length (x : RxPending) : x.bytes.length = 8 := by cases x <;> rfl

theorem CapacityRecord.bytes_length (r : CapacityRecord) : r.bytes.length = 29 := by
  simp [CapacityRecord.bytes, TxPending.bytes_length, RxPending.bytes_length, be16, be32]

/-- The layout of the overhead word, byte by byte (R186). -/
theorem OverheadWord.body_eq (w : OverheadWord) (htx : w.txProfile < 16) (hheadroom : w.headroom ≤ 80) :
    w.body =
      [byteOf (w.hopId.toNat / 4096), byteOf (w.hopId.toNat / 16),
       byteOf (16 * (w.hopId.toNat % 16) + (if w.adapt then 8 else 0) + (if w.echo.isSome then 4 else 0)
         + (if w.commit.isSome then 2 else 0)),
       w.echo.getD 0#8, byteOf (16 * (w.commit.map (·.profile)).getD 0 + w.txProfile)]
      ++ be16 ((w.commit.map (·.switch)).getD 0#16)
      ++ [w.challenge, byteOf (16 * w.request.profile + 4 * w.request.kind.code + w.power.code), byteOf w.headroom]
      ++ be16 w.digest := by
  have h₀ := extractLsb'_eq_byteOf w.hopId 12
  have h₁ := extractLsb'_eq_byteOf w.hopId 4
  simp only [OverheadWord.body, h₀, h₁, wordFlags_eq_byteOf, nibbles_eq_byteOf htx,
    wordRequest_eq_byteOf w.request.kind.code_lt w.power.code_lt,
    wordHeadroom_eq_byteOf (show w.headroom < 128 by omega)]
  rfl

theorem CapacityAlert.bytes_of_no_switch (p k : Nat) (g : BitVec 16) :
    CapacityAlert.bytes ⟨p, k, none, g⟩
      = sealMessage 0x34#8 ([0#8, byteOf p] ++ be32 (BitVec.ofNat 32 k) ++ [0#8, 0#8] ++ be16 g) := by
  have hzero : be16 0#16 = [0#8, 0#8] := by decide
  simp only [CapacityAlert.bytes, Option.isSome_none, Bool.false_eq_true, if_false, Option.getD_none, hzero]

/-- Settles O5: the sequences written out by evaluation, then each layout by its lemma, the optional fields by cases. -/
theorem writtenOutBytesAreReproduced : Obligations.WrittenOutBytesAreReproduced := by
  refine ⟨?written, fun w _ _ htx hheadroom => ?word, ?orders, ?records, ?responses⟩
  case written => refine ⟨?_, ?_, ?_, ?_, ?_⟩ <;> decide +kernel
  case word =>
    refine ⟨w.body, rfl, (w.body_eq htx hheadroom).trans ?_⟩
    obtain ⟨hop, adapt, echo, commit, challenge, request, power, tx, headroom, digest⟩ := w
    simp only [RequestKind.code_eq]
    cases echo <;> cases commit <;> rfl
  case orders =>
    refine ⟨fun _ _ => rfl, fun o ho => ?_, rfl, rfl, rfl, fun _ _ => rfl, transmitOrder_bytes⟩
    rw [receiveOrder_bytes o ho]
    cases o.start <;> rfl
  case records =>
    refine ⟨fun r => ⟨?_, r.bytes_length, rfl, fun _ => rfl⟩, rfl, fun p g => ?_, fun p g => ?_,
      CapacityAlert.bytes_of_no_switch, fun p k n g => rfl⟩
    · obtain ⟨_, _, _, _, tx, _, _, rx⟩ := r
      cases tx <;> cases rx <;> rfl
    · rw [Reply.bytes, spareNibble_eq_byteOf]
      rfl
    · rw [Reply.bytes, spareNibble_eq_byteOf]
      rfl
  case responses =>
    refine ⟨fun _ _ => rfl, fun _ => rfl, fun _ => rfl, rfl, rfl, rfl, fun _ reason => ?_, rfl, rfl, rfl, rfl, rfl⟩
    cases reason <;> rfl

end Sys2Proof.Machine
end

section
/-! PROOFS. READ COUNTERS, CLEAR COUNTERS and a SET PARAMETER that is taken (chapter 10): O14, O16. -/

namespace Sys2Proof.Machine

/-! ### Counters (R177) -/

theorem exec_readCounters_of_turn {s t : State} (h : turn .readCounters s = some t) :
    exec .readCounters s = .next (readCounters t) := by
  simp only [exec, execReadCounters, onTurn_of_some h]

theorem exec_clearCounters_of_turn {s t : State} (h : turn .clearCounters s = some t) :
    exec .clearCounters s = .next (respond (.ok []) (zeroCounters t)) := by
  simp only [exec, execClearCounters, onTurn_of_some h]

theorem allCounters_length (s : State) : (allCounters s).length = 34 := rfl

theorem flatMap_be32_length (xs : List (BitVec 32)) : (xs.flatMap be32).length = 4 * xs.length := by
  induction xs with
  | nil => rfl
  | cons x xs ih => rw [List.flatMap_cons, List.length_append, ih, List.length_cons, be32]; simp; omega

/-- Settles O14: both commands answer in their turn, the list is that of R177 by its definition, and the zeroed blocks
differ in their counters alone. -/
theorem countersAreReadAndCleared : Obligations.CountersAreReadAndCleared := by
  refine ⟨fun s t h => ?_, fun s t h => ?_⟩
  · refine ⟨_, allCounters t, exec_readCounters_of_turn h, rfl, rfl, allCounters_length t, ?_, rfl⟩
    rw [flatMap_be32_length, allCounters_length]
  · exact ⟨zeroCounters t, exec_clearCounters_of_turn h, rfl, rfl⟩

/-! ### SET PARAMETER (R170, R171) -/

theorem exec_setParameter_of_turn {i : Byte} {v : BitVec 32} {s t : State}
    (h : turn (.setParameter i v) s = some t) :
    exec (.setParameter i v) s = .next (setParameter i v t) := by
  simp only [exec, execSetParameter, onTurn_of_some h]

theorem ParamId.coded_iff (w : ParamId) : w.coded = true ↔ w = .mode ∨ w = .atpc := by
  cases w <;> simp [ParamId.coded]

theorem Params.consistent_of_limits {p : Params} {w : ParamId} {x : Int} (hrslLow : w = .rslLow → x < p.rslHigh)
    (hrslHigh : w = .rslHigh → p.rslLow < x) (hattMin : w = .attMin → x ≤ p.attMax)
    (hattMax : w = .attMax → (p.attMin : Int) ≤ x) : p.consistent w x = true := by
  cases w with
  | rslLow => simpa [Params.consistent] using hrslLow
  | rslHigh => simpa [Params.consistent] using hrslHigh
  | attMin => simpa [Params.consistent] using hattMin
  | attMax => simpa [Params.consistent] using hattMax
  | _ => rfl

/-- The steps of R170 are passed by a value that keeps its pair of limits in order and, in a coded parameter, is one
of the codes. -/
theorem Params.judge_eq_take {p : Params} {i : Byte} {v : BitVec 32} {w : ParamId} {x : Int}
    (hi : ParamId.ofByte i = some w) (hx : x = clampInt w.range.1 w.range.2 v.toInt)
    (hcode : w.coded = true → x = v.toInt) (hc : p.consistent w x = true) :
    p.judge i v = .take w x (decide (x ≠ v.toInt)) := by
  have hcode' : ¬ ((w.coded && decide (x ≠ v.toInt)) = true) := by simpa using hcode
  simp only [Params.judge, hi, ← hx, if_neg hcode', if_pos hc]

/-- The table after a write reads as before but for the parameter written: no row reads a field that another row
writes. -/
theorem Params.read_store_other (p : Params) {w w' : ParamId} (x : Int) (h : w' ≠ w) :
    (p.store w x).read w' = p.read w' := by
  cases w <;> cases w' <;> first | rfl | exact absurd rfl h

theorem hop_toNat_ofInt {x : Int} (h : 0 ≤ x ∧ x ≤ 0xFFFFF) : ((BitVec.ofInt 20 x).toNat : Int) = x := by
  rw [BitVec.toNat_ofInt]
  omega

/-- A value in its range is read back as it was written. -/
theorem Params.read_store_same (p : Params) {w : ParamId} {x : Int} (h : w.range.1 ≤ x ∧ x ≤ w.range.2) :
    (p.store w x).read w = x := by
  cases w with
  | mode =>
    have : x = 0 ∨ x = 1 ∨ x = 2 ∨ x = 3 := by simp only [ParamId.range] at h; omega
    obtain rfl | rfl | rfl | rfl := this <;> rfl
  | atpc =>
    have : x = 0 ∨ x = 1 := by simp only [ParamId.range] at h; omega
    obtain rfl | rfl := this <;> rfl
  | ownHop => exact hop_toNat_ofInt h
  | peerHop => exact hop_toNat_ofInt h
  | hopMask => exact hop_toNat_ofInt h
  | rslLow => rfl
  | rslHigh => rfl
  | _ => exact Int.toNat_of_nonneg (le_trans (by decide) h.1)

/-- A write stores the value and touches beyond the table the monitors, the selector and the attenuation alone. -/
theorem storeParameter_eq (w : ParamId) (x : Int) (t : State) :
    storeParameter w x t = { t with
      params := t.params.store w x
      monitor := (storeParameter w x t).monitor
      selector := if w = .mode then { t.selector with modeWrite := true } else t.selector
      tae := { t.tae with attenuation := attenuationAfter w (t.params.store w x) t.tae.attenuation } } := by
  cases w <;> rfl

theorem Monitor.capBurst_toNat (m : Monitor) {x : Int} (h : 0 ≤ x) :
    m.capBurst x.toNat = if x < m.burst then { m with burst := x.toNat } else m := by
  simp only [Monitor.capBurst, Int.toNat_lt h]

/-- A burst threshold below its counter takes the counter down to it (R34, R171). -/
theorem storeParameter_monitor {w : ParamId} {x : Int} (h : w.range.1 ≤ x) (t : State) :
    (storeParameter w x t).monitor =
      ⟨if w = .burstThresholdA ∧ x < t.monitor.a.burst then { t.monitor.a with burst := x.toNat } else t.monitor.a,
       if w = .burstThresholdB ∧ x < t.monitor.b.burst then { t.monitor.b with burst := x.toNat }
       else t.monitor.b⟩ := by
  cases w with
  | burstThresholdA =>
    have := t.monitor.a.capBurst_toNat (le_trans (by decide) h)
    simpa [storeParameter, paramEffects, Params.store] using this
  | burstThresholdB =>
    have := t.monitor.b.capBurst_toNat (le_trans (by decide) h)
    simpa [storeParameter, paramEffects, Params.store] using this
  | _ => simp [storeParameter, paramEffects]

/-- The effects of R136 on the attenuation, in the values written. -/
theorem attenuationAfter_store {w : ParamId} {x : Int} (h : w.range.1 ≤ x ∧ x ≤ w.range.2) (p : Params) (a : Nat) :
    attenuationAfter w (p.store w x) a =
      if w = .atpc then if x = 0 then p.attMin else a
      else if w = .attMin then if p.atpc then max x.toNat (min p.attMax a) else x.toNat
      else if w = .attMax then max p.attMin (min x.toNat a)
      else a := by
  cases w with
  | atpc =>
    have : x = 0 ∨ x = 1 := by simp only [ParamId.range] at h; omega
    obtain rfl | rfl := this <;> rfl
  | _ => rfl

/-- Settles O16: the value passes the steps of R170, and what is stored and changed is read row by row of the table. -/
theorem parameterWritesAreTaken : Obligations.ParameterWritesAreTaken := by
  intro i v s t w x hturn hi hx hcode hrslLow hrslHigh hattMin hattMax
  have hclamp : x = clampInt w.range.1 w.range.2 v.toInt := by
    rw [hx, clampInt_eq _ _ _ w.range_nonempty]
  have hrange : w.range.1 ≤ x ∧ x ≤ w.range.2 := hclamp ▸ clampInt_mem _ _ _ w.range_nonempty
  have hjudge := Params.judge_eq_take hi hclamp (fun hw => hcode (w.coded_iff.1 hw))
    (Params.consistent_of_limits hrslLow hrslHigh hattMin hattMax)
  have hu := storeParameter_eq w x t
  refine ⟨storeParameter w x t, ?_, ?_, fun w' hw' => ?_, ?_, ?_, ?_, ?_, ?_⟩
  · rw [exec_setParameter_of_turn hturn, setParameter, hjudge]
    by_cases hv : x = v.toInt <;> simp [hv]
  · rw [hu]; exact t.params.read_store_same hrange
  · rw [hu]; exact t.params.read_store_other x hw'
  · rw [storeParameter_monitor hrange.1]
  · rw [storeParameter_monitor hrange.1]
  · rw [hu]
  · rw [hu]; exact attenuationAfter_store hrange t.params t.tae.attenuation
  · rw [hu]

end Sys2Proof.Machine
end

section
/-! PROOFS. The events of the Modem Links, the report age (R19 to R21, R25) and the slope (R29): O31, O33. -/

namespace Sys2Proof.Machine

/-! ### The Modem Links (R19 to R21) -/

theorem exec_modemLinkDown_of_up {l : Branch} {s : State} (h : (s.modem.get l).up = true) :
    exec (.modemLinkDown l) s = .next (linkLost l s) := by
  simp only [exec, execModemLinkDown, if_pos h]

theorem exec_modemLinkDown_of_down {l : Branch} {s : State} (h : (s.modem.get l).up = false) :
    exec (.modemLinkDown l) s = .next s := by
  simp [exec, execModemLinkDown, h]

theorem messageSent_of_nil {l : Branch} {s : State} (h : (s.modem.get l).waiting = []) : messageSent l s = s := by
  simp [messageSent, h]

theorem messageSent_of_cons {l : Branch} {s : State} {m : ModemMessage} {rest : List ModemMessage}
    (h : (s.modem.get l).waiting = m :: rest) :
    messageSent l s = { s with
      modem := s.modem.set l { s.modem.get l with waiting := rest }
      sent := { s.sent with modem := s.sent.modem.set l (s.sent.modem.get l ++ [m.bytes]) } } := by
  simp only [messageSent, h]
  rfl

/-- Settles O31: each event by the state of its link, the strobe by its definition. -/
theorem modemLinksAndReportAges : Obligations.ModemLinksAndReportAges := by
  refine ⟨fun l s => ⟨fun hup => ?_, exec_modemLinkDown_of_down, rfl, fun hnil => ?_, fun m rest hcons => ?_⟩,
    fun s => rfl⟩
  · rw [exec_modemLinkDown_of_up hup]
    rfl
  · simp only [exec, execModemMessageSent, messageSent_of_nil hnil]
  · simp only [exec, execModemMessageSent, messageSent_of_cons hcons]

/-! ### The slope (R29) -/

/-- Integer division rounds down (R1). -/
theorem floor_slope_eq (now ago span : Nat) :
    Int.floor ((10 * ((now : ℚ) - (ago : ℚ))) / (span : ℚ)) = 10 * ((now : Int) - (ago : Int)) / (span : Int) := by
  rw [← Rat.floor_intCast_div_natCast]
  push_cast
  rfl

theorem Monitor.slope_of_short {m : Monitor} {span : Nat} (h : m.ring.length ≤ span) : m.slope span = 0 :=
  if_neg (by omega)

/-- With the ring's newest value `now` and the value `ago` a whole span before it (R29). -/
theorem Monitor.slope_of_ring {m : Monitor} {older newer : List Nat} {ago now : Nat}
    (h : m.ring = older ++ ago :: (newer ++ [now])) :
    m.slope (newer.length + 1) =
      max (-500) (min 500 (10 * ((now : Int) - (ago : Int)) / (newer.length + 1 : Nat))) := by
  have hlength : m.ring.length = older.length + newer.length + 2 := by simp [h]; omega
  have hnow : m.ring.getD (m.ring.length - 1) 0 = now := by
    have hlast : m.ring = (older ++ ago :: newer) ++ [now] := by simp [h]
    rw [hlast, List.length_append, List.length_singleton, Nat.add_sub_cancel]; simp
  have hago : m.ring.getD (m.ring.length - 1 - (newer.length + 1)) 0 = ago := by
    have : m.ring.length - 1 - (newer.length + 1) = older.length := by omega
    rw [this, h]; simp
  rw [Monitor.slope, if_pos (by omega), clampInt_eq _ _ _ (by decide), hnow, hago]

/-- Settles O33: a ring too short for the span, or the two values that the slope is read from. -/
theorem theSlopeIsReadFromTheRing : Obligations.TheSlopeIsReadFromTheRing := by
  intro m span _
  refine ⟨Monitor.slope_of_short, fun older newer ago now hring hspan => ?_⟩
  rw [floor_slope_eq, ← hspan, Monitor.slope_of_ring hring]

end Sys2Proof.Machine
end

section
/-! PROOFS. A header at the RAE (R110 to R112): O41. -/

namespace Sys2Proof.Machine

/-- A publication leaves the newest record showing the part as it stands (R143, R144). -/
theorem publish_recordCurrent (s : State) : (publish s).RecordCurrent := publish_record s

theorem headerTaken_iff (l : Branch) (s : State) :
    headerTaken l s = true ↔ s.link ≠ .offline ∧ s.selector.excluded.get l = false := by
  simp [headerTaken]

theorem raeHeader_of_taken {l : Branch} {s : State} (h : Header) (hlink : s.link ≠ .offline)
    (hin : s.selector.excluded.get l = false) : raeHeader l h s = takeHeader h s :=
  if_pos ((headerTaken_iff l s).2 ⟨hlink, hin⟩)

theorem raeHeader_of_dropped {l : Branch} {s : State} (h : Header)
    (hd : s.link = .offline ∨ s.selector.excluded.get l = true) : raeHeader l h s = s := by
  refine if_neg fun ht => ?_
  obtain ⟨hlink, hin⟩ := (headerTaken_iff l s).1 ht
  obtain hd | hd := hd
  · exact hlink hd
  · simp [hd] at hin

/-! ### Which header (R111, R112) -/

theorem takeHeader_of_completing {s : State} {h : Header} (hc : completes s.rae h = true) :
    takeHeader h s = completeCommit h.profile s := if_pos hc

theorem takeHeader_of_old {s : State} {h : Header} (hc : completes s.rae h = false)
    (hn : headerNew s.rae h.number = false) : takeHeader h s = s := by
  simp [takeHeader, hc, hn]

/-- A new header that does not complete the follow count acts on the counter alone. -/
theorem takeHeader_of_counted {s : State} {h : Header} (hc : completes s.rae h = false)
    (hn : headerNew s.rae h.number = true) (hf : ∀ n, followCounted s h = some n → n < s.params.followCount) :
    takeHeader h s = countHeader h s := by
  have hfollows : headerFollows s h = false := by
    cases hk : followCounted s h with
    | none => simp [headerFollows, hk]
    | some n => simp [headerFollows, hk, hf n hk]
  simp [takeHeader, hc, hn, hfollows]

theorem followCounted_of_expected {s : State} {h : Header} (he : h.profile = s.rae.expectedFor h.number) :
    followCounted s h = none := by simp [followCounted, he]

theorem followCounted_of_unknown {s : State} {h : Header} (he : s.ladder.active.enabledAt h.profile = false) :
    followCounted s h = none := by simp [followCounted, he]

theorem followCounted_of_candidate {s : State} {h : Header} (hne : h.profile ≠ s.rae.expectedFor h.number)
    (he : s.ladder.active.enabledAt h.profile = true) :
    followCounted s h = some (if s.rae.candidate = some h.profile then s.rae.follow + 1 else 1) := by
  simp [followCounted, he, hne]

/-! ### The completion (R111) -/

theorem completeCommit_rae (q : Nat) (s : State) :
    (completeCommit q s).rae = { s.rae with
      e := q
      commit := none
      timeAtProfile := 0
      dwell := 0
      follow := 0
      candidate := none
      request := s.rae.request.settle q
      counters := s.rae.counters.countSwitch s.rae.e q (decide (s.rae.request.kind = .emergency)) } := rfl

theorem completeCommit_monitor (q : Nat) (s : State) :
    (completeCommit q s).monitor = ⟨{ s.monitor.a with burst := 0 }, { s.monitor.b with burst := 0 }⟩ := rfl

theorem completeCommit_control (q : Nat) (s : State) :
    (completeCommit q s).control = s.control.afterRaising Event.profileChangedRx.flag := by
  simp [completeCommit, raise_control]

theorem completeCommit_generation (q : Nat) (s : State) :
    (completeCommit q s).capacity.generation = s.capacity.generation + 1#16 := rfl

/-- Settles O41: a header is dropped, completes the commit, or is counted by the profile it names. -/
theorem headersCompleteAndCount : Obligations.HeadersCompleteAndCount := by
  intro l h s completing isNew expected hcompleting hnew hexpected
  have hcompletes : completes s.rae h = completing := by
    rw [hcompleting]
    unfold completes
    cases s.rae.commit <;> simp [atOrAfter]
  have hheaderNew : headerNew s.rae h.number = isNew := by
    rw [hnew]
    unfold headerNew
    cases s.rae.lastHeader with
    | none => rfl
    | some k =>
      simp only [isAfter, atOrAfter, Bool.decide_or, Bool.decide_and]
      rfl
  have hfor : s.rae.expectedFor h.number = expected := by
    rw [hexpected]
    unfold Rae.expectedFor
    cases s.rae.commit <;> simp [atOrAfter]
  clear hcompleting hnew hexpected
  subst hcompletes hheaderNew hfor
  refine ⟨fun hdropped => ?dropped, fun hlink hin hc => ?completed, fun hlink hin hc hn => ?counted⟩
  case dropped =>
    by_cases ht : s.link = .offline ∨ s.selector.excluded.get l = true
    · exact raeHeader_of_dropped h ht
    · simp only [not_or, Bool.not_eq_true] at ht
      obtain ⟨hlink, hin⟩ := ht
      obtain ⟨hc, hn⟩ : completes s.rae h = false ∧ headerNew s.rae h.number = false := by
        simpa [hlink, hin] using hdropped
      rw [raeHeader_of_taken h hlink hin, takeHeader_of_old hc hn]
  case completed =>
    refine ⟨completeCommit h.profile s, ?_, ?_, completeCommit_monitor .., completeCommit_control ..,
      completeCommit_generation .., publish_recordCurrent _, rfl⟩
    · rw [raeHeader_of_taken h hlink hin, takeHeader_of_completing hc]
    · rw [completeCommit_rae]
      simp only [RaeCounters.countSwitch, Request.settle, decide_eq_true_eq]
  case counted =>
    rw [raeHeader_of_taken h hlink hin]
    refine ⟨fun he _ => ?_, fun hne he => ?_, fun hne he n hcount hlt => ?_⟩
    · have hf := followCounted_of_expected he
      rw [takeHeader_of_counted hc hn (by simp [hf]), countHeader, hf]
      exact if_pos he
    · have hf := followCounted_of_unknown he
      rw [takeHeader_of_counted hc hn (by simp [hf]), countHeader, hf]
      exact if_neg hne
    · have hf := followCounted_of_candidate hne he
      rw [← hcount] at hf
      rw [takeHeader_of_counted hc hn (by simpa [hf] using hlt), countHeader, hf]
      rfl

end Sys2Proof.Machine
end

section
/-! PROOFS. The Transmit Slot Request (R121 to R123, R81 to R83): O46. -/

namespace Sys2Proof.Machine

/-! ### The request (R183) -/

/-- Only Link A carries slot requests (R184). -/
theorem link_of_receiveSlotRequest {l : Branch} {m : List Byte} {n : Superframe}
    (h : receiveSlotRequest l m = some n) : l = .a := by
  cases l with
  | a => rfl
  | b => simp [receiveSlotRequest] at h

theorem exec_transmitSlotRequest_of_arrival {l : Branch} {m : List Byte} {n : Superframe} {s : State}
    (h : receiveSlotRequest l m = some n) (hup : (s.modem.get l).up = true) :
    exec (.transmitSlotRequest l m) s = .next (handleSlot n s) := by
  simp only [exec, execTransmitSlotRequest, h, if_pos hup]

theorem exec_transmitSlotRequest_of_none {l : Branch} {m : List Byte} {s : State}
    (h : receiveSlotRequest l m = none ∨ (s.modem.get l).up = false) :
    exec (.transmitSlotRequest l m) s = .next s := by
  obtain h | h := h
  · simp [exec, execTransmitSlotRequest, h]
  · cases hm : receiveSlotRequest l m <;> simp [exec, execTransmitSlotRequest, hm, h]

/-! ### The switch and the owed fallback (R121, R122, R132) -/

theorem switchDue_of_not_committed {n : Superframe} {s : State} (h : ∀ k, s.tae.state ≠ .committed k) :
    switchDue n s = s := by
  simp [switchDue, s.tae.commit?_eq_none_iff.2 h]

theorem switchDue_of_committed {n : Superframe} {s : State} {k : Commit} (h : s.tae.state = .committed k) :
    switchDue n s = if (n - k.switch).toNat < 32768 then completeSwitch k.profile s else s := by
  have hk : s.tae.commit? = some k := by simp [Tae.commit?, h]
  simp only [switchDue, hk, atOrAfter_iff]

theorem LinkState.holding_iff_code (x : LinkState) : x.holding = true ↔ x = .fixed ∨ x.code = 1 := by
  cases x <;> simp [LinkState.holding, LinkState.code]

theorem serveFallback_eq (s : State) :
    serveFallback s =
      if s.tae.fallbackOwed then
        if s.link = .fixed ∨ s.link.code = 1 then fallback (s.withTae { s.tae with fallbackOwed := false })
        else s.withTae { s.tae with fallbackOwed := false }
      else s := by
  simp only [serveFallback, ← LinkState.holding_iff_code]

/-! ### The Transmit Order and its word (R81 to R83, R123) -/

/-- The challenge sequence in numbers (R81). -/
theorem nextChallengeAfter_eq (x : Byte) : nextChallengeAfter x = BitVec.ofNat 8 ((37 * x.toNat + 11) % 256) := by
  apply BitVec.eq_of_toNat_eq
  simp only [nextChallengeAfter, BitVec.toNat_add, BitVec.toNat_mul, BitVec.toNat_ofNat]
  omega

theorem PeerChannel.challenged_eq (k : PeerChannel) :
    k.challenged = { k with
      ring := (k.ring ++ [k.nextChallenge]).drop (k.ring.length + 1 - 16)
      nextChallenge := BitVec.ofNat 8 ((37 * k.nextChallenge.toNat + 11) % 256) } := by
  simp only [PeerChannel.challenged, nextChallengeAfter_eq, pushRing, List.length_append, List.length_singleton,
    Config.challengeRingSize]

/-- A message issued on Link A while it is UP waits behind the others there (R19). -/
theorem issue_a_of_up {s : State} (m : ModemMessage) (h : s.modem.a.up = true) :
    issue .a m s = { s with modem := ⟨{ s.modem.a with waiting := s.modem.a.waiting ++ [m] }, s.modem.b⟩ } := by
  have : s.modem.a.issue m = { s.modem.a with waiting := s.modem.a.waiting ++ [m] } := if_pos h
  rw [issue, PerBranch.get_a, this]
  rfl

theorem sendTransmitOrder_of_offline {s : State} (n : Superframe) (h : s.link = .offline) :
    sendTransmitOrder n s = issue .a (.transmit (mutedOrder n s)) s := if_pos h

theorem sendTransmitOrder_of_not_offline {s : State} (n : Superframe) (h : s.link ≠ .offline) :
    sendTransmitOrder n s
      = issue .a (.transmit (transmitOrder n (outgoingWord s).bytes s)) (s.withPeer s.peer.challenged) := if_neg h

/-- Settles O46: the switch by the TAE state, the fallback by its debt, and the order by the link state. -/
theorem slotRequestsAreAnswered : Obligations.SlotRequestsAreAnswered := by
  intro l m s
  refine ⟨exec_transmitSlotRequest_of_none, fun n hn hup => ?_⟩
  rw [exec_transmitSlotRequest_of_arrival hn hup, handleSlot]
  rw [link_of_receiveSlotRequest hn, PerBranch.get_a] at hup
  refine ⟨switchDue n (s.withTae { s.tae with lastSlot := some n }), _, _, rfl, ?switched, serveFallback_eq _, ?sent⟩
  case switched =>
    cases hstate : s.tae.state with
    | committed k => exact switchDue_of_committed hstate
    | steady => exact switchDue_of_not_committed (by simp [hstate])
    | draining d timer limit => exact switchDue_of_not_committed (by simp [hstate])
  case sent =>
    have hup2 : (serveFallback (switchDue n (s.withTae { s.tae with lastSlot := some n }))).modem.a.up = true := by
      simpa using hup
    generalize serveFallback (switchDue n (s.withTae { s.tae with lastSlot := some n })) = s2 at hup2 ⊢
    by_cases hlink : s2.link = .offline
    · rw [if_pos hlink, sendTransmitOrder_of_offline n hlink, issue_a_of_up _ hup2]
      rfl
    · rw [if_neg hlink, sendTransmitOrder_of_not_offline n hlink,
        issue_a_of_up (s := s2.withPeer s2.peer.challenged) _ hup2, PeerChannel.challenged_eq]
      rfl

end Sys2Proof.Machine
end

section
/-! SUPPORT. What a Branch Report leaves of the state, operation by operation: the events it raises stay pending, overflow
noted is moved by the burst overflow notice alone, a link in OFFLINE stays there, and the monitors change by the
monitor's own work, the fade counters and the cleared bursts of a completion. -/

namespace Sys2Proof.Machine

/-- A state is known by its blocks. -/
theorem State.eq_of_blocks {s t : State}
    (h : s.ladder = t.ladder ∧ s.modem = t.modem ∧ s.monitor = t.monitor ∧ s.fade = t.fade
      ∧ s.selector = t.selector ∧ s.peer = t.peer ∧ s.rae = t.rae ∧ s.tae = t.tae ∧ s.capacity = t.capacity
      ∧ s.link = t.link ∧ s.control = t.control ∧ s.params = t.params ∧ s.sent = t.sent
      ∧ s.unpinned = t.unpinned ∧ s.pending = t.pending) : s = t := by
  cases s
  cases t
  simpa using h

/-! ### Raised events stay pending -/

/-- From `s` to `t` the Control Link Interface changed by raised events alone. -/
def RaisesOnly (s t : State) : Prop := ∃ x, t.control = s.control.afterRaising x

namespace RaisesOnly

variable {s t u : State}

theorem of_control (h : t.control = s.control) : RaisesOnly s t := ⟨0#21, by simp [h]⟩

theorem refl (s : State) : RaisesOnly s s := of_control rfl

theorem trans (h : RaisesOnly s t) (h' : RaisesOnly t u) : RaisesOnly s u := by
  obtain ⟨x, hx⟩ := h
  obtain ⟨y, hy⟩ := h'
  exact ⟨x ||| y, by rw [hy, hx, afterRaising_afterRaising]⟩

/-- An event that is pending stays pending. -/
theorem has (h : RaisesOnly s t) {e : Event} (he : s.control.events.has e = true) :
    t.control.events.has e = true := by
  obtain ⟨x, hx⟩ := h
  simp only [hx, afterRaising_events, EventSet.has, BitVec.getLsbD_or, Bool.or_eq_true]
  exact .inl he

/-- The input store, the mask and the response under way are untouched. -/
theorem control_eq (h : RaisesOnly s t) :
    t.control = { s.control with
      events := t.control.events
      attention := t.control.attention
      reported := t.control.reported } := by
  obtain ⟨x, hx⟩ := h
  rw [hx, ControlLink.afterRaising]
  split <;> rfl

theorem then_control (h : RaisesOnly s t) (hu : u.control = t.control) : RaisesOnly s u :=
  h.trans (of_control hu)

theorem raise (e : Event) (s : State) : RaisesOnly s (raise e s) := ⟨_, raise_control e s⟩

theorem raiseIf (b : Bool) (e : Event) (s : State) : RaisesOnly s (raiseIf b e s) := ⟨_, raiseIf_control b e s⟩

theorem changeLink_id (new : LinkState) (s : State) : RaisesOnly s (changeLink new id s) :=
  ⟨_, changeLink_control new id s⟩

theorem changeLink_fallback (new : LinkState) (s : State) : RaisesOnly s (changeLink new fallback s) :=
  ⟨Event.stateChanged.flag, by simp [changeLink_control]⟩

theorem enterMismatch_id (s : State) : RaisesOnly s (enterMismatch id s) := (changeLink_id _ s).trans (raise _ _)

theorem enterMismatch_fallback (s : State) : RaisesOnly s (enterMismatch fallback s) :=
  (changeLink_fallback _ s).trans (raise _ _)

theorem compareInAcquire (w : WaitReason) (s : State) : RaisesOnly s (compareInAcquire w s) := by
  unfold Machine.compareInAcquire
  split
  · exact changeLink_id _ s
  · split
    · exact refl s
    · exact enterMismatch_id s

theorem supervisorHandOff (s : State) : RaisesOnly s (supervisorHandOff s) := by
  unfold Machine.supervisorHandOff
  split
  · split
    · exact compareInAcquire _ s
    · split
      · exact refl s
      · exact enterMismatch_fallback s
    · split
      · exact refl s
      · exact enterMismatch_fallback s
    · exact refl s
    · exact refl s
  · exact refl s

theorem supervisorDown (s : State) : RaisesOnly s (supervisorDown s) := by
  unfold Machine.supervisorDown
  split
  · exact changeLink_fallback _ s
  · exact changeLink_fallback _ s
  · split
    · exact refl s
    · exact changeLink_id _ s
  · exact refl s
  · exact refl s

theorem enterDown (s : State) : RaisesOnly s (enterDown s) :=
  ((raiseIf (decide (s.peer.state = .up)) .peerDown (s.withPeer s.peer.entersDown)).trans
    (supervisorDown _)).then_control (by simp [Machine.enterDown])

theorem handOff (f : PeerFields) (s : State) : RaisesOnly s (handOff f s) :=
  (supervisorHandOff s).then_control (by simp [Machine.handOff])

theorem acceptWord (m : Superframe) (w : OverheadWord) (s : State) : RaisesOnly s (acceptWord m w s) := by
  unfold Machine.acceptWord
  split
  · exact (raise .echoFault (s.withPeer (s.peer.taken m w))).trans (enterDown _)
  · exact (raiseIf _ _ (s.withPeer (s.peer.taken m w))).trans (handOff _ _)

theorem checkWord (m : Superframe) (bytes : List Byte) (s : State) : RaisesOnly s (checkWord m bytes s) := by
  unfold Machine.checkWord checkIdentity checkOrder
  split
  · split
    · split
      · exact of_control rfl
      · split
        · exact acceptWord _ _ (passIdentity s)
        · exact of_control rfl
    · exact raiseIf _ _ (s.withPeer _)
  · exact of_control rfl

theorem completeCommit (q : Nat) (s : State) : RaisesOnly s (completeCommit q s) :=
  ⟨Event.profileChangedRx.flag, by simp [Machine.completeCommit, raise_control]⟩

theorem followHeader (p : Nat) (m : Superframe) (s : State) : RaisesOnly s (followHeader p m s) :=
  ⟨Event.profileFollowed.flag, by simp [Machine.followHeader, raise_control]⟩

theorem raeHeader (l : Branch) (h : Header) (s : State) : RaisesOnly s (raeHeader l h s) := by
  unfold Machine.raeHeader takeHeader
  split
  · split
    · exact completeCommit _ s
    · split
      · split
        · exact (of_control (by simp)).trans (followHeader _ _ (countHeader h s))
        · exact of_control (by simp)
      · exact refl s
  · exact refl s

theorem supervisorOverflow (s : State) : RaisesOnly s (supervisorOverflow s) := by
  unfold Machine.supervisorOverflow
  split
  · exact (changeLink_id _ s).trans (raise _ _)
  · exact refl s

theorem overflowNotice (l : Branch) (s : State) : RaisesOnly s (overflowNotice l s) := by
  unfold Machine.overflowNotice
  split
  · exact (of_control (by simp)).trans (supervisorOverflow (raeOverflow s))
  · exact refl s

theorem monitorReport (l : Branch) (r : Report) (s : State) : RaisesOnly s (monitorReport l r s) := by
  have hstep := raiseIf (losesLock (s.monitor.get l) r) .branchLost (monitorStep l r s)
  unfold Machine.monitorReport
  split
  · exact (hstep.trans (raise _ _)).trans (overflowNotice l _)
  · exact hstep

theorem fadeReport (l : Branch) (x : Option Nat) (s : State) : RaisesOnly s (fadeReport l x s) := by
  unfold Machine.fadeReport fadeSteps
  exact (((of_control (by simp)).trans (raiseIf _ _ _)).trans (raiseIf _ _ _)).trans (raiseIf _ _ _)

theorem wordStep (r : Report) (s : State) : RaisesOnly s (wordStep r s) := by
  unfold Machine.wordStep
  split
  · exact checkWord _ _ s
  · exact refl s

theorem headerStep (l : Branch) (r : Report) (s : State) : RaisesOnly s (headerStep l r s) := by
  unfold Machine.headerStep
  split
  · exact raeHeader l _ s
  · exact refl s

/-- What the monitor's own work raises is pending after the whole report. -/
theorem handleReport (l : Branch) (r : Report) (s : State) :
    RaisesOnly (Machine.monitorReport l r s) (handleReport l r s) :=
  ((fadeReport l _ _).trans (wordStep r _)).trans (headerStep l r _)

end RaisesOnly

/-! ### Overflow noted -/

theorem seeCommit_overflowNoted (k : Option Commit) (s : State) :
    (seeCommit k s).rae.overflowNoted = s.rae.overflowNoted := by
  unfold seeCommit
  (repeat' split) <;> simp

theorem acceptWord_overflowNoted (m : Superframe) (w : OverheadWord) (s : State) :
    (acceptWord m w s).rae.overflowNoted = s.rae.overflowNoted := by
  unfold acceptWord
  split
  · simp
  · simp [handOff, seeCommit_overflowNoted]

theorem wordStep_overflowNoted (r : Report) (s : State) :
    (wordStep r s).rae.overflowNoted = s.rae.overflowNoted := by
  unfold wordStep checkWord checkIdentity checkOrder
  (repeat' split) <;> simp [acceptWord_overflowNoted]

theorem countHeader_overflowNoted (h : Header) (s : State) :
    (countHeader h s).rae.overflowNoted = s.rae.overflowNoted := by
  unfold countHeader
  (repeat' split) <;> simp

theorem followHeader_overflowNoted (p : Nat) (m : Superframe) (s : State) :
    (followHeader p m s).rae.overflowNoted = s.rae.overflowNoted := by
  unfold followHeader
  split <;> simp [Rae.arrivedAt]

theorem headerStep_overflowNoted (l : Branch) (r : Report) (s : State) :
    (headerStep l r s).rae.overflowNoted = s.rae.overflowNoted := by
  unfold headerStep raeHeader takeHeader
  (repeat' split) <;>
    simp [countHeader_overflowNoted, followHeader_overflowNoted, completeCommit, Rae.arrivedAt]

/-- Overflow noted is moved by the monitor's own notice alone (R104). -/
theorem handleReport_overflowNoted (l : Branch) (r : Report) (s : State) :
    (handleReport l r s).rae.overflowNoted = (monitorReport l r s).rae.overflowNoted := by
  rw [handleReport, headerStep_overflowNoted, reportWorded, wordStep_overflowNoted]
  simp [reportClassified]

/-! ### The link in OFFLINE -/

theorem wordStep_link_of_offline {r : Report} {s : State} (h : s.link = .offline) :
    (wordStep r s).link = .offline := by
  unfold wordStep checkWord checkIdentity checkOrder
  (repeat' split) <;> simp_all

/-- No word and no header takes the link out of OFFLINE (R80, R110). -/
theorem handleReport_link_of_offline {l : Branch} {r : Report} {s : State}
    (h : (monitorReport l r s).link = .offline) : (handleReport l r s).link = .offline := by
  have hc : (reportClassified l r s).link = .offline := by simpa [reportClassified] using h
  simpa [handleReport, reportWorded] using wordStep_link_of_offline hc

/-! ### The monitors -/

theorem monitorReport_monitor (l : Branch) (r : Report) (s : State) :
    (monitorReport l r s).monitor = s.monitor.set l
      (((s.monitor.get l).measured s.params.smoothingShift r).burstStep (s.params.burstThreshold.get l)
        (burstClass s.rae r)) := by
  unfold monitorReport
  split <;> simp [monitorStep]

theorem fadeReport_monitor (l : Branch) (x : Option Nat) (s : State) :
    (fadeReport l x s).monitor = s.monitor.set l
      { s.monitor.get l with
        counters := (s.monitor.get l).counters.countFade (decide (fadeFinding l x s = .onset))
          (durationReached (s.fade.get l) (fadeFinding l x s)) } := by
  simp [fadeReport, fadeSteps]

theorem fadeReport_fade (l : Branch) (x : Option Nat) (s : State) :
    (fadeReport l x s).fade = s.fade.set l (classify s.params (s.fade.get l) (fadeFinding l x s)) := by
  simp [fadeReport, fadeSteps]

/-- A completion clears both burst error counters (R34, R111); any other header leaves the monitors as they are. -/
theorem headerStep_monitor (l : Branch) (r : Report) (s : State) :
    (headerStep l r s).monitor = s.monitor ∨
      (headerStep l r s).monitor = ⟨{ s.monitor.a with burst := 0 }, { s.monitor.b with burst := 0 }⟩ := by
  unfold headerStep raeHeader takeHeader
  split
  · split
    · split
      · exact .inr rfl
      · (repeat' split) <;> simp
    · exact .inl rfl
  · exact .inl rfl

/-- The burst error counter of each branch after the header: as it was, or cleared. -/
theorem headerStep_monitor_get (l k : Branch) (r : Report) (s : State) :
    ∃ b, (b = (s.monitor.get k).burst ∨ b = 0)
      ∧ (headerStep l r s).monitor.get k = { s.monitor.get k with burst := b } := by
  obtain h | h := headerStep_monitor l r s
  · exact ⟨_, .inl rfl, by rw [h]⟩
  · exact ⟨0, .inr rfl, by rw [h]; cases k <;> rfl⟩

/-- The monitor of the report's branch: what its own work leaves, with the fades counted (R45) and the burst error
counter perhaps cleared. -/
theorem handleReport_monitor_same (l : Branch) (r : Report) (s : State) :
    ∃ b onset long, (b = ((monitorReport l r s).monitor.get l).burst ∨ b = 0)
      ∧ (handleReport l r s).monitor.get l =
        { (monitorReport l r s).monitor.get l with
          burst := b
          counters := ((monitorReport l r s).monitor.get l).counters.countFade onset long } := by
  obtain ⟨b, hb, hget⟩ := headerStep_monitor_get l l r (reportWorded l r s)
  simp only [reportWorded, wordStep_frame, reportClassified, fadeReport_monitor, PerBranch.get_set_same] at hb hget
  exact ⟨b, _, _, hb, hget⟩

/-- Of the other monitor only the burst error counter may change. -/
theorem handleReport_monitor_other {l k : Branch} (r : Report) (s : State) (h : k ≠ l) :
    (handleReport l r s).monitor.get k = s.monitor.get k
      ∨ (handleReport l r s).monitor.get k = { s.monitor.get k with burst := 0 } := by
  obtain ⟨b, hb, hget⟩ := headerStep_monitor_get l k r (reportWorded l r s)
  simp only [reportWorded, wordStep_frame, reportClassified, fadeReport_monitor, monitorReport_monitor,
    PerBranch.get_set_other _ _ h] at hb hget
  obtain rfl | rfl := hb
  · exact .inl hget
  · exact .inr hget

end Sys2Proof.Machine
end

section
/-! PROOFS. A Branch Report is measured and handed on (R22 to R30, R35): O32. -/

namespace Sys2Proof.Machine

/-! ### Which reports arrive (R19, R183) -/

theorem reportWhen_of_none {l : Branch} {m : List Byte} {when : Report → Bool} {s : State}
    (h : (s.modem.get l).up = false ∨ receiveReport m = none) : reportWhen l m when s = s := by
  have : arrivingReport l m s = none := by
    obtain h | h := h <;> simp [arrivingReport, h]
  simp [reportWhen, this]

theorem reportWhen_of_arrival {l : Branch} {m : List Byte} {when : Report → Bool} {s : State} {r : Report}
    (hup : (s.modem.get l).up = true) (hr : receiveReport m = some r) :
    reportWhen l m when s = if when r then handleReport l r s else s := by
  have : arrivingReport l m s = some r := by simp [arrivingReport, hup, hr]
  simp only [reportWhen, this]

theorem exec_branchReport_of_arrival {l : Branch} {m : List Byte} {s : State} {r : Report}
    (hup : (s.modem.get l).up = true) (hr : receiveReport m = some r) :
    exec (.branchReport l m) s = .next (handleReport l r s) := by
  simp only [exec, execBranchReport, reportWhen_of_arrival hup hr, if_true]

theorem exec_burstOverflow_of_arrival {l : Branch} {m : List Byte} {s : State} {r : Report}
    (hup : (s.modem.get l).up = true) (hr : receiveReport m = some r) :
    exec (.burstOverflow l m) s = .next (if reportOverflows l r s then handleReport l r s else s) := by
  simp only [exec, execBurstOverflow, reportWhen_of_arrival hup hr]

/-! ### What each hand-off changes (R23) -/

/-- Of the RAE, the monitor's own work moves overflow noted alone (R104). -/
theorem monitorReport_rae (l : Branch) (r : Report) (s : State) :
    (monitorReport l r s).rae = { s.rae with overflowNoted := (monitorReport l r s).rae.overflowNoted } := by
  unfold monitorReport burstEffects overflowNotice raeOverflow
  (repeat' split) <;> simp

theorem monitorReport_eq (l : Branch) (r : Report) (s : State) :
    monitorReport l r s = { s with
      monitor := s.monitor.set l ((monitorReport l r s).monitor.get l)
      rae := { s.rae with overflowNoted := (monitorReport l r s).rae.overflowNoted }
      link := (monitorReport l r s).link
      capacity := (monitorReport l r s).capacity
      control := { s.control with
        events := (monitorReport l r s).control.events
        attention := (monitorReport l r s).control.attention
        reported := (monitorReport l r s).control.reported } } := by
  apply State.eq_of_blocks
  simpa [monitorReport_monitor, ← monitorReport_rae] using (RaisesOnly.monitorReport l r s).control_eq

theorem fadeReport_eq (l : Branch) (x : Option Nat) (s : State) :
    fadeReport l x s = { s with
      monitor := s.monitor.set l
        { s.monitor.get l with counters :=
          { (s.monitor.get l).counters with
            fades := ((fadeReport l x s).monitor.get l).counters.fades
            longFades := ((fadeReport l x s).monitor.get l).counters.longFades } }
      fade := s.fade.set l ((fadeReport l x s).fade.get l)
      control := { s.control with
        events := (fadeReport l x s).control.events
        attention := (fadeReport l x s).control.attention
        reported := (fadeReport l x s).control.reported } } := by
  apply State.eq_of_blocks
  simpa [fadeReport_monitor, fadeReport_fade, BranchCounters.countFade]
    using (RaisesOnly.fadeReport l x s).control_eq

/-- The word goes to the Peer Channel with the number of a valid header (R22, R23). -/
theorem wordStep_eq (r : Report) (s : State) :
    wordStep r s =
      match r.locked, r.header, r.word with
      | true, some h, some w => checkWord h.number w s
      | _, _, _ => s := by
  obtain ⟨locked, _, _, _, header, word⟩ := r
  cases locked <;> cases header <;> cases word <;> rfl

theorem headerStep_eq (l : Branch) (r : Report) (s : State) :
    headerStep l r s =
      match r.locked, r.header with
      | true, some h => raeHeader l h s
      | _, _ => s := by
  obtain ⟨locked, _, _, _, header, _⟩ := r
  cases locked <;> cases header <;> rfl

/-! ### The monitor's own work (R24 to R30, R35) -/

/-- Step 5 changes the burst error counter and the count of overflows (R32). -/
theorem Monitor.burstStep_eq (m : Monitor) (threshold : Nat) (k : BurstClass) :
    ∃ b n, m.burstStep threshold k = { m with burst := b, counters := { m.counters with burstOverflows := n } } := by
  unfold Monitor.burstStep
  split
  · exact ⟨_, _, rfl⟩
  · exact ⟨_, _, rfl⟩
  · split <;> exact ⟨_, _, rfl⟩

/-- The monitor of the report's branch after the whole report: the measurements, with the burst error counter, the count
of overflows and the counts of fades whatever they come to. -/
theorem handleReport_measured (l : Branch) (r : Report) (s : State) :
    ∃ b n onset long, (handleReport l r s).monitor.get l =
      { (s.monitor.get l).measured s.params.smoothingShift r with
        burst := b
        counters := ({ ((s.monitor.get l).measured s.params.smoothingShift r).counters with
          burstOverflows := n } : BranchCounters).countFade onset long } := by
  obtain ⟨b, onset, long, -, h⟩ := handleReport_monitor_same l r s
  obtain ⟨b', n, hstep⟩ := ((s.monitor.get l).measured s.params.smoothingShift r).burstStep_eq
    (s.params.burstThreshold.get l) (burstClass s.rae r)
  rw [monitorReport_monitor, PerBranch.get_set_same, hstep] at h
  exact ⟨b, n, onset, long, h⟩

theorem Monitor.measured_of_locked (m : Monitor) (k : Nat) {r : Report} (h : r.locked = true) :
    m.measured k r = { m with
      status := .locked
      age := 0
      rsl := some (max (-1000) (min (-150) r.rsl))
      filter := some (m.filterAfter k (min 500 r.rawSnr))
      primed := true
      ring := (m.ring ++ [(m.filterAfter k (min 500 r.rawSnr) + 32) / 64]).drop (m.ring.length + 1 - 16)
      counters := m.counters.countReport true (decide (0 < r.errored)) false } := by
  simp only [Monitor.measured, if_pos h, clampInt_eq _ _ _ (show (-1000 : Int) ≤ -150 by decide), clampNat_eq,
    pushRing, snrOf, List.length_append, List.length_singleton, Config.snrMax, Config.slopeRingSize]

theorem Monitor.measured_of_unlocked (m : Monitor) (k : Nat) {r : Report} (h : r.locked = false) :
    m.measured k r = { m with
      status := .unlocked
      age := 0
      rsl := some (max (-1000) (min (-150) r.rsl))
      primed := false
      ring := []
      counters := m.counters.countReport false false (losesLock m r) } := by
  simp [Monitor.measured, h, clampInt_eq _ _ _ (show (-1000 : Int) ≤ -150 by decide)]

/-- A loss of lock raises BRANCH_LOST (R24). -/
theorem monitorReport_branchLost {l : Branch} {r : Report} {s : State}
    (h : losesLock (s.monitor.get l) r = true) :
    (monitorReport l r s).control.events.has .branchLost = true := by
  have hraise : (raiseIf (losesLock (s.monitor.get l) r) .branchLost (monitorStep l r s)).control.events.has
      .branchLost = true := by
    simp [h, EventSet.has, Event.flag, Event.bit]
  unfold monitorReport
  split
  · exact ((RaisesOnly.raise _ _).trans (RaisesOnly.overflowNotice l _)).has hraise
  · exact hraise

/-- Settles O32: the hand-offs in their order with what each changes, then the monitor of the branch by its lock. -/
theorem reportsAreMeasuredAndHandedOn : Obligations.ReportsAreMeasuredAndHandedOn := by
  refine ⟨fun l m s => ⟨fun h => ?_, fun r hup hr => ?_⟩, fun l m s r hup hr => ?_⟩
  · simp only [exec, execBranchReport, reportWhen_of_none h]
  · refine ⟨_, reportClassified l r s, reportWorded l r s, handleReport l r s, rfl, rfl, wordStep_eq r _,
      headerStep_eq l r _, exec_branchReport_of_arrival hup hr, by simp, by simp, by simp, monitorReport_eq l r s, ?_⟩
    have h := fadeReport_eq l (fadeSample l r (monitorReport l r s)) (monitorReport l r s)
    have hfade : (monitorReport l r s).fade = s.fade := by simp
    rwa [hfade] at h
  · refine ⟨handleReport l r s, (s.monitor.get l).filterAfter s.params.smoothingShift (min 500 r.rawSnr),
      exec_branchReport_of_arrival hup hr, ?_, ?_⟩
    · unfold Monitor.filterAfter
      cases (s.monitor.get l).primed <;> cases (s.monitor.get l).filter <;> rfl
    · obtain ⟨b, n, onset, long, hmonitor⟩ := handleReport_measured l r s
      have hlost : r.locked = false → (s.monitor.get l).status = .locked →
          (handleReport l r s).control.events.has .branchLost = true := fun hr hs =>
        (RaisesOnly.handleReport l r s).has (monitorReport_branchLost (by simp [losesLock, hr, hs]))
      refine ⟨?_, ?_, ?_, ?_, ?_, ?_, ?_, ?_, ?_, ?_, ?_, hlost, fun k hk => handleReport_monitor_other r s hk⟩
      all_goals
        rw [hmonitor]
        cases hlocked : r.locked with
        | true =>
          simp [Monitor.measured_of_locked _ _ hlocked, BranchCounters.countFade, BranchCounters.countReport]
        | false =>
          simp [Monitor.measured_of_unlocked _ _ hlocked, BranchCounters.countFade, BranchCounters.countReport,
            losesLock, hlocked]

end Sys2Proof.Machine
end

section
/-! PROOFS. The burst error counter and its overflow (R31 to R33, R104, R163): O34. -/

namespace Sys2Proof.Machine

/-! ### The class of a report (R31) -/

/-- A report is passive when its valid header names another profile than the one expected (R31). -/
def passiveReport (rae : Rae) (r : Report) : Bool :=
  match r.validHeader with
  | some h => decide (h.profile ≠ rae.expectedFor h.number)
  | none => false

theorem burstClass_eq (rae : Rae) (r : Report) :
    burstClass rae r =
      if passiveReport rae r then .passive
      else if !r.locked || decide (0 < r.errored) then .errored
      else .clean := by
  unfold burstClass passiveReport Report.validHeader
  cases r.locked <;> cases r.header <;> simp

/-- A report is errored when it is not passive and either unlocked or with errored blocks. -/
theorem burstClass_eq_errored_iff (rae : Rae) (r : Report) :
    burstClass rae r = .errored ↔
      (!passiveReport rae r && (!r.locked || decide (0 < r.errored))) = true := by
  rw [burstClass_eq]
  cases passiveReport rae r <;> cases (!r.locked || decide (0 < r.errored)) <;> simp

theorem Monitor.measured_burst (m : Monitor) (k : Nat) (r : Report) : (m.measured k r).burst = m.burst := by
  unfold Monitor.measured
  split <;> rfl

theorem Monitor.measured_burstOverflows (m : Monitor) (k : Nat) (r : Report) :
    (m.measured k r).counters.burstOverflows = m.counters.burstOverflows := by
  unfold Monitor.measured
  split <;> rfl

theorem reportOverflows_iff (l : Branch) (r : Report) (s : State) :
    reportOverflows l r s = true ↔
      burstClass s.rae r = .errored ∧ s.params.burstThreshold.get l ≤ (s.monitor.get l).burst := by
  simp [reportOverflows, overflows]

/-- The burst error counter after step 5, by the report's class (R32). -/
theorem monitorReport_burst (l : Branch) (r : Report) (s : State) :
    ((monitorReport l r s).monitor.get l).burst =
      match burstClass s.rae r with
      | .passive => (s.monitor.get l).burst
      | .clean => (s.monitor.get l).burst - 1
      | .errored =>
        if s.params.burstThreshold.get l ≤ (s.monitor.get l).burst then 0 else (s.monitor.get l).burst + 1 := by
  rw [monitorReport_monitor, PerBranch.get_set_same]
  cases burstClass s.rae r with
  | passive => exact Monitor.measured_burst ..
  | clean => simp only [Monitor.burstStep, Monitor.measured_burst]
  | errored =>
    simp only [Monitor.burstStep, Monitor.measured_burst]
    by_cases hle : s.params.burstThreshold.get l ≤ (s.monitor.get l).burst
    · rw [if_neg (Nat.not_lt.2 hle), if_pos hle]
    · rw [if_pos (Nat.lt_of_not_le hle), if_neg hle]

/-- An overflow clears the counter and is counted (R32, R35). -/
theorem monitorReport_of_overflow {l : Branch} {r : Report} {s : State} (h : reportOverflows l r s = true) :
    ((monitorReport l r s).monitor.get l).burst = 0
      ∧ ((monitorReport l r s).monitor.get l).counters.burstOverflows
        = (s.monitor.get l).counters.burstOverflows + 1#32 := by
  obtain ⟨hclass, hle⟩ := (reportOverflows_iff l r s).1 h
  rw [monitorReport_monitor, PerBranch.get_set_same, hclass]
  have hlt : ¬ ((s.monitor.get l).measured s.params.smoothingShift r).burst < s.params.burstThreshold.get l := by
    rw [Monitor.measured_burst]; omega
  simp only [Monitor.burstStep, if_neg hlt, Monitor.measured_burstOverflows]
  exact ⟨trivial, rfl⟩

/-! ### The notice (R33, R104, R163) -/

/-- Service is read from the exclusion and the diversity mode (R33). -/
theorem inService_iff (l : Branch) (s : State) :
    inService l s = true ↔ s.selector.excluded.get l = false
      ∧ (s.params.mode = .combine ∨ s.params.mode = .select
        ∨ s.params.mode = (match l with
            | .a => .singleA
            | .b => .singleB)) := by
  cases l <;> cases hm : s.params.mode <;> simp [inService, hm]

theorem not_inService {l : Branch} {s : State}
    (h : s.selector.excluded.get l = true
      ∨ s.params.mode = (match l with
          | .a => .singleB
          | .b => .singleA)) : inService l s = false := by
  obtain h | h := h
  · simp [inService, h]
  · cases l <;> simp [inService, h]

theorem inService_congr (l : Branch) {s t : State} (hselector : t.selector = s.selector)
    (hparams : t.params = s.params) : inService l t = inService l s := by
  simp only [inService, hselector, hparams]

theorem overflowNotice_of_service {l : Branch} {s : State} (h : inService l s = true) :
    overflowNotice l s = supervisorOverflow (raeOverflow s) := if_pos h

theorem overflowNotice_of_no_service {l : Branch} {s : State} (h : inService l s = false) :
    overflowNotice l s = s := by simp [overflowNotice, h]

theorem raeOverflow_rae (s : State) :
    (raeOverflow s).rae = if s.link = .offline then s.rae else { s.rae with overflowNoted := true } := by
  unfold raeOverflow
  split <;> rfl

theorem supervisorOverflow_rae (s : State) : (supervisorOverflow s).rae = s.rae := by simp

theorem supervisorOverflow_of_pinned {s : State} {p : Nat} (h : s.link = .pinned p) :
    supervisorOverflow s = raise .pinFault (changeLink .adaptive id s) := by
  simp [supervisorOverflow, h]

theorem supervisorOverflow_of_not_pinned {s : State} (h : ∀ p, s.link ≠ .pinned p) : supervisorOverflow s = s := by
  unfold supervisorOverflow
  split
  · exact absurd ‹_› (h _)
  · rfl

/-- What the Link Supervisor does on a notice: PINNED becomes ADAPTIVE with its events and one publication, and any other
link state takes no notice (R163). -/
structure NoticesOverflow (s t : State) : Prop where
  link : t.link = match s.link with
    | .pinned _ => .adaptive
    | other => other
  control : t.control = s.control.afterRaising
    (if s.link.pin?.isSome = true then Event.stateChanged.flag ||| Event.pinFault.flag else 0#21)
  kept : (∀ p, s.link ≠ .pinned p) → t.capacity = s.capacity
  published : (∃ p, s.link = .pinned p) →
    t.capacity.generation = s.capacity.generation + 1#16 ∧ t.RecordCurrent ∧ t.capacity.alert = s.capacity.alert

theorem supervisorOverflow_noticesOverflow (s : State) : NoticesOverflow s (supervisorOverflow s) := by
  by_cases h : ∃ p, s.link = .pinned p
  · obtain ⟨p, hp⟩ := h
    rw [supervisorOverflow_of_pinned hp]
    exact {
      link := by simp [hp]
      control := by
        simp [hp, LinkState.pin?, raise_control, changeLink_control, afterRaising_afterRaising]
      kept := fun hne => absurd hp (hne p)
      published := fun _ => ⟨rfl, publish_recordCurrent _, publish_alert _⟩ }
  · have hne : ∀ p, s.link ≠ .pinned p := fun p hp => h ⟨p, hp⟩
    rw [supervisorOverflow_of_not_pinned hne]
    exact {
      link := by split <;> simp_all
      control := by
        have : s.link.pin?.isSome = false := by cases hl : s.link <;> simp_all [LinkState.pin?]
        simp [this]
      kept := fun _ => rfl
      published := fun hp => absurd hp h }

/-! ### The monitor's own work on an overflow -/

theorem monitorReport_of_no_overflow {l : Branch} {r : Report} {s : State} (h : reportOverflows l r s = false) :
    monitorReport l r s = raiseIf (losesLock (s.monitor.get l) r) .branchLost (monitorStep l r s) := by
  simp [monitorReport, h]

/-- The state in which the notice of an overflow is given: the monitor has stepped and its events are raised. -/
def overflowRaised (l : Branch) (r : Report) (s : State) : State :=
  raise (burstOverflowEvent l) (raiseIf (losesLock (s.monitor.get l) r) .branchLost (monitorStep l r s))

theorem overflowRaised_inService (l : Branch) (r : Report) (s : State) :
    inService l (overflowRaised l r s) = inService l s :=
  inService_congr l (by simp [overflowRaised]) (by simp [overflowRaised])

theorem overflowRaised_control (l : Branch) (r : Report) (s : State) :
    (overflowRaised l r s).control = s.control.afterRaising
      ((if losesLock (s.monitor.get l) r then Event.branchLost.flag else 0#21) ||| (burstOverflowEvent l).flag) := by
  simp [overflowRaised, raise_control, raiseIf_control, afterRaising_afterRaising]

theorem monitorReport_of_overflow_out_of_service {l : Branch} {r : Report} {s : State}
    (h : reportOverflows l r s = true) (hs : inService l s = false) :
    monitorReport l r s = overflowRaised l r s := by
  rw [monitorReport, if_pos h]
  exact overflowNotice_of_no_service ((overflowRaised_inService l r s).trans hs)

theorem monitorReport_of_overflow_in_service {l : Branch} {r : Report} {s : State}
    (h : reportOverflows l r s = true) (hs : inService l s = true) :
    monitorReport l r s = supervisorOverflow (raeOverflow (overflowRaised l r s)) := by
  rw [monitorReport, if_pos h]
  exact overflowNotice_of_service ((overflowRaised_inService l r s).trans hs)

/-- The notice of a branch in service as the Link Supervisor takes it, from the state before the report. -/
theorem monitorReport_noticesOverflow {l : Branch} {r : Report} {s : State}
    (h : reportOverflows l r s = true) (hs : inService l s = true) :
    NoticesOverflow { s with control := (overflowRaised l r s).control } (monitorReport l r s) := by
  have hn := supervisorOverflow_noticesOverflow (raeOverflow (overflowRaised l r s))
  rw [← monitorReport_of_overflow_in_service h hs] at hn
  obtain ⟨hlink, hcontrol, hkept, hpublished⟩ := hn
  simp only [raeOverflow_frame, overflowRaised, raise_frame, raiseIf_frame, monitorStep_frame]
    at hlink hcontrol hkept hpublished
  exact ⟨hlink, hcontrol, hkept, hpublished⟩

theorem monitorReport_rae_of_service {l : Branch} {r : Report} {s : State}
    (h : reportOverflows l r s = true) (hs : inService l s = true) :
    (monitorReport l r s).rae = if s.link = .offline then s.rae else { s.rae with overflowNoted := true } := by
  rw [monitorReport_of_overflow_in_service h hs, supervisorOverflow_rae, raeOverflow_rae]
  simp [overflowRaised]

/-- Without a notice the RAE, the link state and the Capacity Link are untouched. -/
theorem monitorReport_without_notice {l : Branch} {r : Report} {s : State}
    (h : reportOverflows l r s = false ∨ inService l s = false) :
    (monitorReport l r s).rae = s.rae ∧ (monitorReport l r s).link = s.link
      ∧ (monitorReport l r s).capacity = s.capacity := by
  cases ho : reportOverflows l r s with
  | false => simp [monitorReport_of_no_overflow ho]
  | true =>
    have hs : inService l s = false := by simpa [ho] using h
    simp [monitorReport_of_overflow_out_of_service ho hs, overflowRaised]

/-- The monitor's own part of a report raises the loss of lock, the overflow and what its notice raises, and no other
event. -/
theorem monitorReport_control (l : Branch) (r : Report) (s : State) :
    (monitorReport l r s).control = s.control.afterRaising
      ((if losesLock (s.monitor.get l) r then Event.branchLost.flag else 0#21)
        ||| (if reportOverflows l r s then (burstOverflowEvent l).flag else 0#21)
        ||| (if reportOverflows l r s = true ∧ inService l s = true ∧ s.link.pin?.isSome = true then
              Event.stateChanged.flag ||| Event.pinFault.flag else 0#21)) := by
  cases ho : reportOverflows l r s with
  | false => simp [monitorReport_of_no_overflow ho, raiseIf_control]
  | true =>
    cases hs : inService l s with
    | false => simp [monitorReport_of_overflow_out_of_service ho hs, overflowRaised_control]
    | true =>
      rw [(monitorReport_noticesOverflow ho hs).control, overflowRaised_control, afterRaising_afterRaising]
      simp

theorem burstOverflowEvent_flag (l : Branch) : (burstOverflowEvent l).flag = match l with
    | .a => Event.burstOverflowA.flag
    | .b => Event.burstOverflowB.flag := by cases l <;> rfl

theorem EventSet.has_or (x y : EventSet) (e : Event) : EventSet.has (x ||| y) e = (x.has e || y.has e) := by
  simp [EventSet.has]

theorem Event.flag_has (e : Event) : e.flag.has e = true := by cases e <;> decide

/-- An overflow raises the event of its branch (R32). -/
theorem monitorReport_has_burstOverflow {l : Branch} {r : Report} {s : State} (h : reportOverflows l r s = true) :
    (monitorReport l r s).control.events.has (burstOverflowEvent l) = true := by
  simp [monitorReport_control, h, EventSet.has_or, Event.flag_has]

/-- In PINNED the notice of a branch in service raises PIN_FAULT (R163). -/
theorem monitorReport_has_pinFault {l : Branch} {r : Report} {s : State} (h : reportOverflows l r s = true)
    (hs : inService l s = true) (hp : s.link.pin?.isSome = true) :
    (monitorReport l r s).control.events.has .pinFault = true := by
  simp [monitorReport_control, h, hs, hp, EventSet.has_or, Event.flag_has]

/-- Settles O34: the report's class gives the counter, and an overflow with its notice gives the events, the RAE's note
and the link state; the rest of the report keeps what is asked of them. -/
theorem burstsOverflow : Obligations.BurstsOverflow := by
  intro l m s r passive errored overflow hup hr hpassive herrored hoverflow
  have hp : passive = passiveReport s.rae r := by
    rw [hpassive]
    unfold passiveReport Report.validHeader Rae.expectedFor
    cases r.locked <;> cases r.header <;> cases s.rae.commit <;> simp [atOrAfter]
  have ho : reportOverflows l r s = overflow := by
    rw [Bool.eq_iff_iff, reportOverflows_iff, burstClass_eq_errored_iff, ← hp, ← herrored, hoverflow]
    simp
  refine ⟨?burst, fun hno => ?quiet, fun service hservice => ⟨?raised, fun hov hs => ?notice⟩, fun hov => ?overflows⟩
  case burst =>
    rw [monitorReport_burst, burstClass_eq, ← hp, hoverflow, herrored]
    cases passive <;> cases (!r.locked || decide (0 < r.errored)) <;> simp
  case quiet =>
    rw [hno] at ho
    obtain ⟨hrae, hlink, hcapacity⟩ := monitorReport_without_notice (.inl ho)
    refine ⟨?_, hrae, hlink, hcapacity⟩
    rw [exec_burstOverflow_of_arrival hup hr, ho]
    rfl
  case raised =>
    have hs : inService l s = service := Bool.eq_iff_iff.2 ((inService_iff l s).trans hservice.symm)
    have hcontrol := monitorReport_control l r s
    simp only [ho, hs, burstOverflowEvent_flag, losesLock, Bool.and_eq_true, Bool.not_eq_true', decide_eq_true_eq]
      at hcontrol
    exact hcontrol
  case notice =>
    rw [hov] at ho
    have hs : inService l s = true := (inService_iff l s).2 (hservice.1 hs)
    obtain ⟨hlink, -, hkept, hpublished⟩ := monitorReport_noticesOverflow ho hs
    exact ⟨monitorReport_rae_of_service ho hs, hlink, hkept, hpublished⟩
  case overflows =>
    rw [hov] at ho
    obtain ⟨hburst, hcount⟩ := monitorReport_of_overflow ho
    obtain ⟨b, onset, long, hb, hmonitor⟩ := handleReport_monitor_same l r s
    have hkept := RaisesOnly.handleReport l r s
    refine ⟨handleReport l r s, ?_, exec_branchReport_of_arrival hup hr, ?_, ?_, ?_, fun hin hmode => ?_,
      fun hout => ?_⟩
    · rw [exec_burstOverflow_of_arrival hup hr, ho]
      rfl
    · rw [hmonitor]
      dsimp only
      omega
    · rw [hmonitor]
      exact hcount
    · exact hkept.has (monitorReport_has_burstOverflow ho)
    · have hs : inService l s = true := (inService_iff l s).2 ⟨hin, hmode⟩
      have hlink := (monitorReport_noticesOverflow ho hs).link
      rw [handleReport_overflowNoted, monitorReport_rae_of_service ho hs]
      refine ⟨fun hl => by rw [if_neg hl], fun hl => ⟨by rw [if_pos hl], ?_⟩, fun ⟨p, hl⟩ => ⟨?_, ?_⟩⟩
      · apply handleReport_link_of_offline
        rw [hlink, hl]
      · exact hkept.has (monitorReport_has_pinFault ho hs (by simp [hl, LinkState.pin?]))
      · rw [hlink, hl]
    · obtain ⟨hrae, hlink, hcapacity⟩ := monitorReport_without_notice (.inr (not_inService hout))
      exact ⟨hrae, hlink, hcapacity, by rw [handleReport_overflowNoted, hrae]⟩

end Sys2Proof.Machine
end

section
/-! PROOFS. The Fade Classifiers (R38 to R45): O35. -/

namespace Sys2Proof.Machine

/-! ### The fade test (R41, R42) -/

theorem fadeTest_eq (threshold hysteresis : Nat) (faded locked : Bool) (snr : Nat) :
    fadeTest threshold hysteresis faded (if locked then some snr else none) =
      if !faded && (!locked || decide (snr < threshold)) then .onset
      else if faded && locked && decide (threshold + hysteresis ≤ snr) then .ended
      else .neither := by
  cases faded <;> cases locked <;> simp [fadeTest]

theorem Monitor.burstStep_filter (m : Monitor) (threshold : Nat) (k : BurstClass) :
    (m.burstStep threshold k).filter = m.filter := by
  obtain ⟨_, _, h⟩ := m.burstStep_eq threshold k
  rw [h]

/-- The sample is the filtered SNR that this report leaves, present when the report is locked (R23, R27). -/
theorem fadeSample_monitorReport (l : Branch) (r : Report) (s : State) :
    fadeSample l r (monitorReport l r s) =
      if r.locked then
        some (((s.monitor.get l).filterAfter s.params.smoothingShift (min 500 r.rawSnr) + 32) / 64)
      else none := by
  cases hlocked : r.locked with
  | false => simp [fadeSample, hlocked]
  | true =>
    simp only [fadeSample, hlocked, if_true, monitorReport_monitor, PerBranch.get_set_same, Monitor.snr,
      Monitor.burstStep_filter, Monitor.measured_of_locked _ _ hlocked, Option.map_some, snrOf]

/-- What the fade test of the report's branch finds on a report. -/
def reportFinding (l : Branch) (r : Report) (s : State) : FadeFinding :=
  fadeFinding l (fadeSample l r (monitorReport l r s)) (monitorReport l r s)

theorem fadeFinding_monitorReport (l : Branch) (r : Report) (s : State) :
    fadeFinding l (fadeSample l r (monitorReport l r s)) (monitorReport l r s) = reportFinding l r s := rfl

theorem reportFinding_eq (l : Branch) (r : Report) (s : State) :
    reportFinding l r s = fadeTest (s.params.fadeThreshold.get l) s.params.fadeHysteresis (s.fade.get l).faded
      (if r.locked then
        some (((s.monitor.get l).filterAfter s.params.smoothingShift (min 500 r.rawSnr) + 32) / 64)
      else none) := by
  simp [reportFinding, fadeFinding, fadeSample_monitorReport]

/-! ### The three steps of a classifier, by the finding (R41 to R44) -/

theorem countDown_eq (timer : Option Nat) :
    countDown timer = timer.bind (fun n => if n ≤ 1 then none else some (n - 1)) := by
  obtain _ | _ | _ | n := timer <;> simp [countDown]

theorem classify_onset (p : Params) (f : FadeClassifier) :
    classify p f .onset =
      { faded := true
        duration := some p.durationLimit
        recurrence := some p.recurrenceLimit
        longFade := f.longFade
        fastFading := f.fastFading || f.recurrence.isSome } := rfl

theorem classify_ended (p : Params) (f : FadeClassifier) :
    classify p f .ended =
      { faded := false
        duration := none
        recurrence := countDown f.recurrence
        longFade := false
        fastFading := f.fastFading && decide (f.recurrence ≠ some 1) } := rfl

theorem classify_neither (p : Params) (f : FadeClassifier) :
    classify p f .neither =
      { faded := f.faded
        duration := if f.faded then countDown f.duration else f.duration
        recurrence := countDown f.recurrence
        longFade := f.longFade || (f.faded && decide (f.duration = some 1))
        fastFading := f.fastFading && decide (f.recurrence ≠ some 1) } := by
  obtain ⟨faded, _, _, _, _⟩ := f
  cases faded <;> simp [classify, FadeClassifier.durationStep, FadeClassifier.recurrenceStep]

theorem durationReached_iff (f : FadeClassifier) (x : FadeFinding) :
    durationReached f x = true ↔ x = .neither ∧ f.faded = true ∧ f.duration = some 1 := by
  simp [durationReached, and_assoc]

/-! ### The events of the classifier (R43, R44) -/

/-- The events that the classifier of branch `l` raises from the contents `f` and a finding. -/
def fadeRaised (l : Branch) (f : FadeClassifier) (x : FadeFinding) : EventSet :=
  (if durationReached f x then (longFadeEvent l).flag else 0#21)
    ||| (if decide (x = .onset) && f.recurrence.isSome && !f.fastFading then Event.fastFadingOn.flag else 0#21)
    ||| (if recurrenceReached f x && f.fastFading then Event.fastFadingOff.flag else 0#21)

theorem EventSet.has_ite (p : Prop) [Decidable p] (x : EventSet) (e : Event) :
    EventSet.has (if p then x else 0#21) e = (decide p && x.has e) := by
  split <;> simp [EventSet.has, *]

theorem Event.flag_has_eq (e e' : Event) : e.flag.has e' = decide (e.bit = e'.bit) := by
  have hbit : e'.bit < 21 := by cases e' <;> decide
  have : e.flag = BitVec.twoPow 21 e.bit := by simp [Event.flag, BitVec.twoPow]
  simp [this, EventSet.has, hbit, eq_comm]

theorem fadeRaised_has_longFade (l k : Branch) (f : FadeClassifier) (x : FadeFinding) :
    (fadeRaised l f x).has (longFadeEvent k) = (durationReached f x && decide (l = k)) := by
  cases l <;> cases k <;>
    simp [fadeRaised, EventSet.has_or, EventSet.has_ite, Event.flag_has_eq, longFadeEvent, Event.bit]

theorem fadeRaised_has_fastFadingOn (l : Branch) (f : FadeClassifier) (x : FadeFinding) :
    (fadeRaised l f x).has .fastFadingOn = (decide (x = .onset) && f.recurrence.isSome && !f.fastFading) := by
  cases l <;> simp [fadeRaised, EventSet.has_or, EventSet.has_ite, Event.flag_has_eq, longFadeEvent, Event.bit]

theorem fadeRaised_has_fastFadingOff (l : Branch) (f : FadeClassifier) (x : FadeFinding) :
    (fadeRaised l f x).has .fastFadingOff = (recurrenceReached f x && f.fastFading) := by
  cases l <;> simp [fadeRaised, EventSet.has_or, EventSet.has_ite, Event.flag_has_eq, longFadeEvent, Event.bit]

theorem fadeReport_control (l : Branch) (x : Option Nat) (s : State) :
    (fadeReport l x s).control = s.control.afterRaising (fadeRaised l (s.fade.get l) (fadeFinding l x s)) := by
  simp only [fadeReport, fadeSteps, raiseIf_control, State.withMonitor_control, State.withFade_control,
    afterRaising_afterRaising, fadeRaised]

/-- The events that the Fade Classifiers raise. -/
def fadeFlags : EventSet :=
  Event.longFadeA.flag ||| Event.longFadeB.flag ||| Event.fastFadingOn.flag ||| Event.fastFadingOff.flag

/-- The events of the Fade Classifiers among a set. -/
def fadeEvents (x : EventSet) : EventSet := x &&& fadeFlags

theorem fadeEvents_or (x y : EventSet) : fadeEvents (x ||| y) = fadeEvents x ||| fadeEvents y := by
  apply BitVec.eq_of_getLsbD_eq
  intro i _
  simp [fadeEvents, Bool.and_or_distrib_right]

theorem fadeEvents_ite (p : Prop) [Decidable p] (x : EventSet) :
    fadeEvents (if p then x else 0#21) = if p then fadeEvents x else 0#21 := by
  split <;> simp [fadeEvents]

theorem fadeEvents_flag {e : Event} (h : fadeFlags.has e = false) : fadeEvents e.flag = 0#21 := by
  rw [fadeEvents, Event.flag_and, h]
  rfl

theorem has_of_fadeEvents_eq {x y : EventSet} (h : fadeEvents x = fadeEvents y) {e : Event}
    (he : fadeFlags.has e = true) : x.has e = y.has e := by
  have := congrArg (fun z : EventSet => z.has e) h
  simpa [fadeEvents, EventSet.has, he, show fadeFlags.getLsbD e.bit = true from he] using this

/-! ### No other part of a report raises them -/

theorem supervisorDown_fadeEvents (s : State) :
    fadeEvents (supervisorDown s).control.events = fadeEvents s.control.events := by
  unfold supervisorDown
  (repeat' split) <;> simp (disch := decide) [fadeEvents_or, fadeEvents_flag]

theorem enterDown_fadeEvents (s : State) :
    fadeEvents (enterDown s).control.events = fadeEvents s.control.events := by
  simp (disch := decide) [enterDown, supervisorDown_fadeEvents, fadeEvents_or, fadeEvents_ite, fadeEvents_flag]

theorem compareInAcquire_fadeEvents (w : WaitReason) (s : State) :
    fadeEvents (compareInAcquire w s).control.events = fadeEvents s.control.events := by
  unfold compareInAcquire enterMismatch
  (repeat' split) <;> simp (disch := decide) [fadeEvents_or, fadeEvents_flag]

theorem supervisorHandOff_fadeEvents (s : State) :
    fadeEvents (supervisorHandOff s).control.events = fadeEvents s.control.events := by
  unfold supervisorHandOff enterMismatch
  (repeat' split) <;> simp (disch := decide) [compareInAcquire_fadeEvents, fadeEvents_or, fadeEvents_flag]

theorem acceptWord_fadeEvents (m : Superframe) (w : OverheadWord) (s : State) :
    fadeEvents (acceptWord m w s).control.events = fadeEvents s.control.events := by
  unfold acceptWord handOff
  split <;> simp (disch := decide) [enterDown_fadeEvents, supervisorHandOff_fadeEvents, fadeEvents_or, fadeEvents_ite,
    fadeEvents_flag]

theorem wordStep_fadeEvents (r : Report) (s : State) :
    fadeEvents (wordStep r s).control.events = fadeEvents s.control.events := by
  unfold wordStep checkWord checkIdentity checkOrder foreignWord
  (repeat' split) <;>
    simp (disch := decide) [acceptWord_fadeEvents, passIdentity, countDuplicate, countBadCrc, fadeEvents_or,
      fadeEvents_ite, fadeEvents_flag]

theorem headerStep_fadeEvents (l : Branch) (r : Report) (s : State) :
    fadeEvents (headerStep l r s).control.events = fadeEvents s.control.events := by
  unfold headerStep raeHeader takeHeader completeCommit followHeader
  (repeat' split) <;> simp (disch := decide) [fadeEvents_or, fadeEvents_flag]

theorem monitorReport_fadeEvents (l : Branch) (r : Report) (s : State) :
    fadeEvents (monitorReport l r s).control.events = fadeEvents s.control.events := by
  have hburst : fadeFlags.has (burstOverflowEvent l) = false := by cases l <;> decide
  have hnotice : fadeEvents (Event.stateChanged.flag ||| Event.pinFault.flag) = 0#21 := by decide
  have hlost : fadeEvents Event.branchLost.flag = 0#21 := by decide
  simp only [monitorReport_control, afterRaising_events, fadeEvents_or, fadeEvents_ite, fadeEvents_flag hburst, hlost,
    hnotice]
  simp

/-- A report raises exactly the events of its classifier among those of the Fade Classifiers. -/
theorem handleReport_fadeEvents (l : Branch) (r : Report) (s : State) :
    fadeEvents (handleReport l r s).control.events =
      fadeEvents (s.control.events ||| fadeRaised l (s.fade.get l) (reportFinding l r s)) := by
  have hfade : (monitorReport l r s).fade = s.fade := by simp
  rw [handleReport, headerStep_fadeEvents, reportWorded, wordStep_fadeEvents, reportClassified, fadeReport_control,
    afterRaising_events, fadeEvents_or, monitorReport_fadeEvents, hfade, ← fadeEvents_or]
  rfl

theorem handleReport_has_fadeEvent (l : Branch) (r : Report) (s : State) {e : Event} (he : fadeFlags.has e = true) :
    (handleReport l r s).control.events.has e =
      (s.control.events.has e || (fadeRaised l (s.fade.get l) (reportFinding l r s)).has e) := by
  rw [has_of_fadeEvents_eq (handleReport_fadeEvents l r s) he, EventSet.has_or]

theorem handleReport_has_longFade (l k : Branch) (r : Report) (s : State) :
    (handleReport l r s).control.events.has (longFadeEvent k) =
      (s.control.events.has (longFadeEvent k)
        || (durationReached (s.fade.get l) (reportFinding l r s) && decide (l = k))) := by
  rw [handleReport_has_fadeEvent l r s (by cases k <;> decide), fadeRaised_has_longFade]

/-! ### The classifiers and the counts of fades after the whole report -/

theorem handleReport_fade (l : Branch) (r : Report) (s : State) :
    (handleReport l r s).fade = s.fade.set l (classify s.params (s.fade.get l) (reportFinding l r s)) := by
  simp [handleReport, reportWorded, reportClassified, fadeReport_fade, reportFinding]

theorem handleReport_fade_same (l : Branch) (r : Report) (s : State) :
    (handleReport l r s).fade.get l = classify s.params (s.fade.get l) (reportFinding l r s) := by
  rw [handleReport_fade, PerBranch.get_set_same]

theorem monitorReport_fadeCounts (l : Branch) (r : Report) (s : State) :
    ((monitorReport l r s).monitor.get l).counters.fades = (s.monitor.get l).counters.fades
      ∧ ((monitorReport l r s).monitor.get l).counters.longFades = (s.monitor.get l).counters.longFades := by
  obtain ⟨_, _, hstep⟩ := ((s.monitor.get l).measured s.params.smoothingShift r).burstStep_eq
    (s.params.burstThreshold.get l) (burstClass s.rae r)
  rw [monitorReport_monitor, PerBranch.get_set_same, hstep]
  unfold Monitor.measured
  split <;> exact ⟨rfl, rfl⟩

/-- The counts of fades and long fades of the report's branch (R41, R43, R45). -/
theorem handleReport_fadeCounts (l : Branch) (r : Report) (s : State) :
    ((handleReport l r s).monitor.get l).counters.fades =
        (s.monitor.get l).counters.fades + (if decide (reportFinding l r s = .onset) then 1#32 else 0#32)
      ∧ ((handleReport l r s).monitor.get l).counters.longFades =
        (s.monitor.get l).counters.longFades
          + (if durationReached (s.fade.get l) (reportFinding l r s) then 1#32 else 0#32) := by
  obtain ⟨hfades, hlong⟩ := monitorReport_fadeCounts l r s
  obtain ⟨b, -, hget⟩ := headerStep_monitor_get l l r (reportWorded l r s)
  have hfade : (monitorReport l r s).fade = s.fade := by simp
  simp only [reportWorded, wordStep_frame, reportClassified, fadeReport_monitor, PerBranch.get_set_same, hfade,
    fadeFinding_monitorReport] at hget
  rw [handleReport, reportWorded, reportClassified, hget]
  exact ⟨congrArg (· + _) hfades, congrArg (· + _) hlong⟩

theorem exec_longFade_of_arrival {l : Branch} {m : List Byte} {s : State} {r : Report}
    (hup : (s.modem.get l).up = true) (hr : receiveReport m = some r) :
    exec (.longFade l m) s =
      .next (if durationReached (s.fade.get l) (reportFinding l r s) then handleReport l r s else s) :=
  congrArg Host.Outcome.next (reportWhen_of_arrival hup hr)

theorem exec_fastFadingOff_of_arrival {l : Branch} {m : List Byte} {s : State} {r : Report}
    (hup : (s.modem.get l).up = true) (hr : receiveReport m = some r) :
    exec (.fastFadingOff l m) s =
      .next (if recurrenceReached (s.fade.get l) (reportFinding l r s) then handleReport l r s else s) :=
  congrArg Host.Outcome.next (reportWhen_of_arrival hup hr)

/-! ### The statement -/

/-- The finding in the terms of the statement: onset from CLEAR alone, end from FADED alone. -/
theorem reportFinding_cases {l : Branch} {r : Report} {s : State} {snr : Nat} {onset ended : Bool}
    (hsnr : snr = ((s.monitor.get l).filterAfter s.params.smoothingShift (min 500 r.rawSnr) + 32) / 64)
    (honset : onset = (!(s.fade.get l).faded && (!r.locked || decide (snr < s.params.fadeThreshold.get l))))
    (hended : ended = ((s.fade.get l).faded && r.locked
      && decide (s.params.fadeThreshold.get l + s.params.fadeHysteresis ≤ snr))) :
    (reportFinding l r s = .onset ∧ onset = true ∧ ended = false ∧ (s.fade.get l).faded = false)
      ∨ (reportFinding l r s = .ended ∧ onset = false ∧ ended = true ∧ (s.fade.get l).faded = true)
      ∨ (reportFinding l r s = .neither ∧ onset = false ∧ ended = false) := by
  have hfinding : reportFinding l r s = if onset then .onset else if ended then .ended else .neither := by
    rw [reportFinding_eq, ← hsnr, fadeTest_eq, ← honset, ← hended]
  cases hfaded : (s.fade.get l).faded with
  | false =>
    have hended : ended = false := by simp [hended, hfaded]
    cases onset <;> simp [hfinding, hended]
  | true =>
    have honset : onset = false := by simp [honset, hfaded]
    cases ended <;> simp [hfinding, honset]

/-- Settles O35: the finding has three cases, and in each the classifier, the counts and the raised events are those of
the three steps; the rest of the report changes no classifier, no count of fades and no event of a fade. -/
theorem fadesAreClassified : Obligations.FadesAreClassified := by
  intro l m s r f snr onset ended hup hr hf hsnr honset hended
  subst hf
  have hcases := reportFinding_cases hsnr honset hended
  obtain ⟨hfades, hlongs⟩ := handleReport_fadeCounts l r s
  have hlong : durationReached (s.fade.get l) (reportFinding l r s) =
      ((s.fade.get l).faded && !ended && decide ((s.fade.get l).duration = some 1)) := by
    rw [Bool.eq_iff_iff, durationReached_iff]
    obtain ⟨hx, -, -, hfaded⟩ | ⟨hx, -, he, -⟩ | ⟨hx, -, he⟩ := hcases
    · simp [hx, hfaded]
    · simp [hx, he]
    · simp [hx, he]
  have honsetx : decide (reportFinding l r s = .onset) = onset := by
    obtain ⟨hx, ho, -⟩ | ⟨hx, ho, -⟩ | ⟨hx, ho, -⟩ := hcases <;> simp [hx, ho]
  have hoff : recurrenceReached (s.fade.get l) (reportFinding l r s) =
      (!onset && decide ((s.fade.get l).recurrence = some 1)) := by
    rw [recurrenceReached, decide_not, honsetx]
  refine ⟨handleReport l r s, exec_branchReport_of_arrival hup hr, ?faded, ?duration, ?longFade, ?recurrence,
    ?fastFading, ?fades, ?longFades, fun k hk => ?others, ?onEvent, ?longRow, ?longEvent, ?otherEvent, ?offRow,
    ?offEvent, fun s1 hs1 => ?control⟩
  case fades => rw [hfades, honsetx]
  case longFades => simpa only [hlong, Bool.and_eq_true, Bool.not_eq_true', decide_eq_true_eq, and_assoc] using hlongs
  case others => rw [handleReport_fade, PerBranch.get_set_other _ _ hk]
  case onEvent => rw [handleReport_has_fadeEvent l r s (by decide), fadeRaised_has_fastFadingOn, honsetx]
  case offEvent => rw [handleReport_has_fadeEvent l r s (by decide), fadeRaised_has_fastFadingOff, hoff]
  case longRow =>
    simp only [exec_longFade_of_arrival hup hr, hlong, Bool.and_eq_true, Bool.not_eq_true', decide_eq_true_eq, and_assoc]
  case offRow => simp [exec_fastFadingOff_of_arrival hup hr, hoff]
  case longEvent =>
    have h := handleReport_has_longFade l l r s
    rw [hlong, decide_eq_true (rfl : l = l), Bool.and_true] at h
    cases l <;> exact h
  case otherEvent =>
    have h := handleReport_has_longFade l (otherBranch l) r s
    rw [show decide (l = otherBranch l) = false by cases l <;> rfl, Bool.and_false, Bool.or_false] at h
    cases l <;> exact h
  case control =>
    have hfade : (monitorReport l r s).fade = s.fade := by simp
    have h := fadeReport_control l (fadeSample l r (monitorReport l r s)) (monitorReport l r s)
    rw [fadeFinding_monitorReport, hfade, fadeRaised, hlong, honsetx, hoff] at h
    simp only [Bool.and_eq_true, Bool.not_eq_true', decide_eq_true_eq, and_assoc] at h
    subst hs1
    cases l <;> exact h
  all_goals
    rw [handleReport_fade_same]
    obtain ⟨hx, ho, he, hfaded⟩ | ⟨hx, ho, he, hfaded⟩ | ⟨hx, ho, he⟩ := hcases
    · simp [hx, ho, he, hfaded, classify_onset]
    · simp [hx, ho, he, hfaded, classify_ended, countDown_eq]
    · simp [hx, ho, he, classify_neither, countDown_eq]

end Sys2Proof.Machine
end

section
/-! PROOFS. The RAE's decision steps in ADAPTIVE with an adaptive peer (R97 to R103): O54. -/

namespace Sys2Proof.Machine

/-! ### Searching a ladder (R6) -/

/-- Every enabled entry has a slot: beyond the last one the blank entry is read. -/
theorem Ladder.lt_slotCount_of_enabledAt {l : Ladder} {i : Nat} (h : l.enabledAt i = true) : i < Config.slotCount := by
  by_contra hi
  have hslot : l.slot i = Entry.blank := by simp [Ladder.slot, Vector.getElem?_eq_none (Nat.le_of_not_lt hi)]
  simp [Ladder.enabledAt, hslot, Entry.blank] at h

/-- The next enabled entry above *p*: enabled, above, and with none enabled between (R6). -/
theorem Ladder.nextAbove_eq_some_iff {l : Ladder} {p k : Nat} :
    l.nextAbove p = some k ↔
      p < k ∧ l.enabledAt k = true ∧ ∀ j, p < j → j < k → l.enabledAt j = false := by
  rw [Ladder.nextAbove, List.find?_range_eq_some]
  constructor
  · rintro ⟨hk, -, hmin⟩
    obtain ⟨hp, hen⟩ : p < k ∧ l.enabledAt k = true := by simpa using hk
    exact ⟨hp, hen, fun j hpj hjk => by simpa [hpj] using hmin j hjk⟩
  · rintro ⟨hp, hen, hmin⟩
    refine ⟨by simp [hp, hen], List.mem_range.2 (Ladder.lt_slotCount_of_enabledAt hen), fun j hjk => ?_⟩
    by_cases hpj : p < j
    · simp [hmin j hpj hjk]
    · simp [hpj]

/-- A search from the top of a range finds the greatest index that passes. -/
theorem find?_reverse_range_eq_some_iff {n i : Nat} {p : Nat → Bool} :
    (List.range n).reverse.find? p = some i ↔ p i = true ∧ i < n ∧ ∀ j, i < j → j < n → p j = false := by
  induction n with
  | zero => simp
  | succ n ih =>
    rw [List.range_succ, List.reverse_append, List.reverse_singleton, List.singleton_append, List.find?_cons]
    cases hn : p n with
    | true =>
      simp only [Option.some.injEq]
      constructor
      · rintro rfl
        exact ⟨hn, by omega, fun j _ _ => by omega⟩
      · rintro ⟨-, hi, hmax⟩
        by_contra hne
        simp [hmax n (by omega) (by omega)] at hn
    | false =>
      simp only [ih]
      constructor
      · rintro ⟨hp, hi, hmax⟩
        refine ⟨hp, by omega, fun j hij hj => ?_⟩
        obtain rfl | hlt : j = n ∨ j < n := by omega
        · exact hn
        · exact hmax j hij hlt
      · rintro ⟨hp, hi, hmax⟩
        have hne : i ≠ n := fun e => by simp [← e, hp] at hn
        exact ⟨hp, by omega, fun j hij hj => hmax j hij (by omega)⟩

/-- The highest enabled entry below *p* that meets a test. -/
theorem Ladder.highestBelow_eq_some {l : Ladder} {p k : Nat} {test : Entry → Bool} (hk : k < p)
    (hen : l.enabledAt k = true) (htest : test (l.slot k) = true)
    (hmax : ∀ j, k < j → j < p → l.enabledAt j = true → test (l.slot j) = false) :
    l.highestBelow p test = some k := by
  rw [Ladder.highestBelow, find?_reverse_range_eq_some_iff]
  refine ⟨by simp [hk, hen, htest], Ladder.lt_slotCount_of_enabledAt hen, fun j hkj _ => ?_⟩
  by_cases hjp : j < p
  · cases hj : l.enabledAt j with
    | false => simp
    | true => simp [hmax j hkj hjp hj]
  · simp [hjp]

theorem Ladder.highestBelow_eq_none {l : Ladder} {p : Nat} {test : Entry → Bool}
    (h : ∀ j, j < p → l.enabledAt j = true → test (l.slot j) = false) : l.highestBelow p test = none := by
  rw [Ladder.highestBelow, List.find?_eq_none]
  intro j _ hj
  obtain ⟨⟨hjp, hen⟩, htest⟩ : (j < p ∧ l.enabledAt j = true) ∧ test (l.slot j) = true := by simpa using hj
  simp [h j hjp hen] at htest

/-! ### The decision steps (R97 to R101) -/

theorem Request.downward_iff (e : Nat) (r : Request) : r.downward e = true ↔ r.kind ≠ .none ∧ r.profile < e := by
  simp [Request.downward]

theorem downshiftTaken_iff (s : State) (v : Nat) :
    downshiftTaken s v = true ↔ 0 < s.rae.e ∧ v < (s.ladder.active.slot s.rae.e).down := by
  simp [downshiftTaken]

theorem downshiftTaken_eq_false_iff (s : State) (v : Nat) :
    downshiftTaken s v = false ↔ s.rae.e = 0 ∨ (s.ladder.active.slot s.rae.e).down ≤ v := by
  rw [← Bool.not_eq_true, downshiftTaken_iff]
  omega

theorem fadeFlagsClear_iff (f : PerBranch FadeClassifier) (g : Governing) :
    fadeFlagsClear f g = true ↔
      ∀ l, (g = .one l ∨ g = .both) → (f.get l).longFade = false ∧ (f.get l).fastFading = false := by
  cases g with
  | one k => simp [fadeFlagsClear]
  | both =>
    simp only [fadeFlagsClear, Bool.and_eq_true, Bool.not_eq_true', or_true, forall_const]
    refine ⟨fun ⟨⟨⟨ha, ha'⟩, hb⟩, hb'⟩ l => ?_, fun h => ⟨⟨h .a, (h .b).1⟩, (h .b).2⟩⟩
    cases l with
    | a => exact ⟨ha, ha'⟩
    | b => exact ⟨hb, hb'⟩

/-- Power deferral (R100). -/
theorem deferralApplies_iff (s : State) (g : Governing) (v : Nat) :
    deferralApplies s g v = true ↔
      s.params.atpc = true ∧ 0 < s.peer.fields.headroom
        ∧ (∀ l, (g = .one l ∨ g = .both) → (s.fade.get l).longFade = false ∧ (s.fade.get l).fastFading = false)
        ∧ (s.ladder.active.slot s.rae.e).down ≤ v + 5 * s.peer.fields.headroom
        ∧ ¬ (s.rae.request.kind ≠ .none ∧ s.rae.request.profile < s.rae.e) := by
  rw [← fadeFlagsClear_iff, ← Request.downward_iff]
  simp only [deferralApplies, Bool.and_eq_true, decide_eq_true_eq, Bool.not_eq_true', Nat.sub_le_iff_le_add',
    Bool.not_eq_true, and_assoc]

/-- The downshift target is the highest enabled entry below *e* that the predicted value still carries (R99). -/
theorem downshiftTarget_of_highest {l : Ladder} {e v k : Nat} (hk : k < e) (hen : l.enabledAt k = true)
    (hdown : (l.slot k).down ≤ v) (hmax : ∀ j, k < j → j < e → l.enabledAt j = true → v < (l.slot j).down) :
    downshiftTarget l e v = k := by
  rw [downshiftTarget, Ladder.highestBelow_eq_some hk hen (by simpa using hdown)
    (fun j hkj hje hj => by simpa using hmax j hkj hje hj)]
  rfl

/-- With no such entry the target is 0 (R99). -/
theorem downshiftTarget_of_none {l : Ladder} {e v : Nat}
    (h : ∀ j, j < e → l.enabledAt j = true → v < (l.slot j).down) : downshiftTarget l e v = 0 := by
  rw [downshiftTarget, Ladder.highestBelow_eq_none (fun j hje hj => by simpa using h j hje hj)]
  rfl

theorem requiredDwell_eq (s : State) :
    requiredDwell s =
      if (s.selector.usable.a = true ∧ s.fade.a.fastFading = true)
          ∨ (s.selector.usable.b = true ∧ s.fade.b.fastFading = true) then
        min 65535 (4 * s.params.upshiftDwell)
      else s.params.upshiftDwell := by
  simp only [requiredDwell, Bool.or_eq_true, Bool.and_eq_true, Config.dwellMax]

/-- The upshift step counts toward the next enabled entry above *e* (R101). -/
theorem upshiftEntry_eq_some {s : State} {v k : Nat} (hcommit : s.rae.commit = none)
    (hk : s.ladder.active.nextAbove s.rae.e = some k) (hup : (s.ladder.active.slot k).up ≤ v) :
    upshiftEntry s v = some k := by
  simp [upshiftEntry, hcommit, hk, hup]

/-- A pending commit, or an up threshold that is not reached, leaves no entry to count toward (R101). -/
theorem upshiftEntry_eq_none {s : State} {v : Nat}
    (h : s.rae.commit ≠ none
      ∨ ∀ k, s.ladder.active.nextAbove s.rae.e = some k → v < (s.ladder.active.slot k).up) :
    upshiftEntry s v = none := by
  unfold upshiftEntry
  split
  · rename_i k hcommit hk
    have hlt : v < (s.ladder.active.slot k).up := h.resolve_left (absurd hcommit) k hk
    rw [if_neg (Nat.not_le.2 hlt)]
  · rfl

theorem upshiftRipe_iff (s : State) :
    upshiftRipe s = true ↔
      requiredDwell s ≤ succSat Config.dwellMax s.rae.dwell
        ∧ (s.ladder.active.slot s.rae.e).minDwell ≤ s.rae.timeAtProfile := by
  simp [upshiftRipe]

theorem succSat_eq_min (limit n : Nat) : succSat limit n = min limit (n + 1) := by
  unfold succSat
  split <;> omega

theorem decideUpshift_of_some {s : State} {v k : Nat} (x : Estimate) (h : upshiftEntry s v = some k) :
    decideUpshift s x v =
      ⟨if upshiftRipe s then some ⟨k, .normal⟩ else none, rslRule s.params (some x), false,
        succSat Config.dwellMax s.rae.dwell⟩ := by
  simp only [decideUpshift, h]

theorem decideUpshift_of_none {s : State} {v : Nat} (x : Estimate) (h : upshiftEntry s v = none) :
    decideUpshift s x v = ⟨none, rslRule s.params (some x), false, 0⟩ := by
  simp only [decideUpshift, h]

theorem decideDownshift_of_deferral {s : State} {x : Estimate} {v : Nat} (h : deferralApplies s x.governing v = true) :
    decideDownshift s x v = ⟨none, .raise, true, 0⟩ := if_pos h

theorem decideDownshift_of_no_deferral {s : State} {x : Estimate} {v : Nat}
    (h : ¬ deferralApplies s x.governing v = true) :
    decideDownshift s x v =
      ⟨some ⟨downshiftTarget s.ladder.active s.rae.e v, .normal⟩, rslRule s.params (some x), false, 0⟩ := if_neg h

theorem decideDownshift_dwell (s : State) (x : Estimate) (v : Nat) : (decideDownshift s x v).dwell = 0 := by
  unfold decideDownshift
  split <;> rfl

theorem decideUpshift_power (s : State) (x : Estimate) (v : Nat) :
    (decideUpshift s x v).power = rslRule s.params (some x) ∧ (decideUpshift s x v).deferred = false := by
  unfold decideUpshift
  split <;> exact ⟨rfl, rfl⟩

/-! ### Which step decides (R97 to R101) -/

theorem decideAdaptive_of_emergency {s : State} (h : s.selector.estimate = none ∨ s.rae.overflowNoted = true) :
    decideAdaptive s = decideEmergency s.rae := by
  unfold decideAdaptive
  split
  · rfl
  · rename_i x hx
    rw [if_pos (h.resolve_left (by simp [hx]))]

section

variable {s : State} {x : Estimate} (hx : s.selector.estimate = some x) (hquiet : s.rae.overflowNoted = false)
include hx hquiet

theorem decideAdaptive_of_downshift (h : downshiftTaken s (predict s.params.horizon x) = true) :
    decideAdaptive s = decideDownshift s x (predict s.params.horizon x) := by
  simp [decideAdaptive, hx, hquiet, h]

theorem decideAdaptive_of_upshift (h : downshiftTaken s (predict s.params.horizon x) = false) :
    decideAdaptive s = decideUpshift s x (predict s.params.horizon x) := by
  simp [decideAdaptive, hx, hquiet, h]

theorem upshiftReached_of_estimate (hlink : s.link = .adaptive) (hadapt : s.peer.fields.adapt = true) :
    upshiftReached s = (!downshiftTaken s (predict s.params.horizon x)
      && (upshiftEntry s (predict s.params.horizon x)).isSome && upshiftRipe (evaluationBegins s)) := by
  simp [upshiftReached, hx, hquiet, hlink, hadapt]

end

theorem upshiftReached_of_emergency {s : State} (h : s.selector.estimate = none ∨ s.rae.overflowNoted = true) :
    upshiftReached s = false := by
  unfold upshiftReached
  split
  · simp
  · rename_i x hx
    simp [h.resolve_left (by simp [hx])]

/-! ### The whole evaluation (R92) -/

/-- The stall counter leaves what the decision has settled (R106). -/
theorem stallStep_rae (s : State) :
    ∃ n reported, (stallStep s).rae = { s.rae with stall := n, stallReported := reported } := by
  unfold stallStep
  split
  · exact ⟨_, _, (raiseIf_frame ..).2.2.2.2.2.2.1⟩
  · exact ⟨_, _, rfl⟩

theorem raeEvaluate_rae {s : State} (h : s.link ≠ .offline) :
    ∃ n reported, (raeEvaluate s).rae =
      { decideRequest (evaluationBegins s) with stall := n, stallReported := reported, overflowNoted := false } := by
  obtain ⟨n, reported, hstall⟩ := stallStep_rae (evaluationDecides s)
  refine ⟨n, reported, ?_⟩
  rw [raeEvaluate, if_neg h, dropOverflow_rae, hstall, evaluationDecides_rae]

/-- What the evaluation leaves in the RAE is the decision, its candidate merged with the standing request (R92, R102). -/
structure Settles (s t : State) (d : Decision) : Prop where
  request : t.rae.request = mergeRequest s.rae.e s.rae.request d.candidate
  power : t.rae.power = d.power
  deferred : t.rae.deferred = d.deferred
  dwell : t.rae.dwell = d.dwell
  timeAtProfile : t.rae.timeAtProfile = succSat Config.dwellMax s.rae.timeAtProfile

theorem raeEvaluate_settles {s : State} (hlink : s.link = .adaptive) (hadapt : s.peer.fields.adapt = true) :
    Settles s (raeEvaluate s) (decideAdaptive (evaluationBegins s)) := by
  obtain ⟨n, reported, h⟩ := raeEvaluate_rae (s := s) (by simp [hlink])
  have hdecide : decideRequest (evaluationBegins s) = { (evaluationBegins s).rae with
      request := mergeRequest s.rae.e s.rae.request (decideAdaptive (evaluationBegins s)).candidate
      power := (decideAdaptive (evaluationBegins s)).power
      deferred := (decideAdaptive (evaluationBegins s)).deferred
      dwell := (decideAdaptive (evaluationBegins s)).dwell } := by
    simp only [decideRequest, evaluationBegins_frame, hlink, hadapt, if_true]
    rfl
  rw [hdecide] at h
  exact ⟨congrArg Rae.request h, congrArg Rae.power h, congrArg Rae.deferred h, congrArg Rae.dwell h,
    congrArg Rae.timeAtProfile h⟩

theorem raeEvaluate_of_emergency {s : State} (hlink : s.link = .adaptive) (hadapt : s.peer.fields.adapt = true)
    (h : s.selector.estimate = none ∨ s.rae.overflowNoted = true) :
    Settles s (raeEvaluate s) (decideEmergency s.rae) := by
  have hsettles := raeEvaluate_settles hlink hadapt
  rwa [decideAdaptive_of_emergency (s := evaluationBegins s) h] at hsettles

theorem raeEvaluate_of_downshift {s : State} (hlink : s.link = .adaptive) (hadapt : s.peer.fields.adapt = true)
    {x : Estimate} (hx : s.selector.estimate = some x) (hquiet : s.rae.overflowNoted = false)
    (h : downshiftTaken s (predict s.params.horizon x) = true) :
    Settles s (raeEvaluate s) (decideDownshift s x (predict s.params.horizon x)) := by
  have hsettles := raeEvaluate_settles hlink hadapt
  rwa [decideAdaptive_of_downshift (s := evaluationBegins s) hx hquiet h] at hsettles

/-- The upshift step reads the dwell count and the time at profile of this evaluation (R92, R101, R159). -/
theorem raeEvaluate_of_upshift {s : State} (hlink : s.link = .adaptive) (hadapt : s.peer.fields.adapt = true)
    {x : Estimate} (hx : s.selector.estimate = some x) (hquiet : s.rae.overflowNoted = false)
    (h : downshiftTaken s (predict s.params.horizon x) = false) :
    Settles s (raeEvaluate s) (decideUpshift (evaluationBegins s) x (predict s.params.horizon x)) := by
  have hsettles := raeEvaluate_settles hlink hadapt
  rwa [decideAdaptive_of_upshift (s := evaluationBegins s) hx hquiet h] at hsettles

theorem exec_upshiftDwellReached (s : State) :
    exec .upshiftDwellReached s =
      .next (if upshiftReached (selectorEvaluate s) then raeEvaluate (selectorEvaluate s) else s) := rfl

/-- Settles O54: the estimate, the note of an overflow and the down threshold of *e* say which step decides, and each step
gives its candidate, its power request and its dwell count. -/
theorem evaluationInAdaptive : Obligations.EvaluationInAdaptive := by
  intro s u t hu ht hslink hadapt
  have hlink : u.link = .adaptive := by simp [hu, hslink]
  have hparams : u.params = s.params := by simp [hu]
  have hrow : exec .upshiftDwellReached s = .next (if upshiftReached u then t else s) := by
    rw [ht, hu, exec_upshiftDwellReached]
  have hrow_kept : upshiftReached u = false → exec .upshiftDwellReached s = .next s := fun h => by simp [hrow, h]
  refine ⟨by rw [ht, hu]; rfl, fun hemergency => ?emergency, fun x v hx hquiet hv => ?_⟩
  case emergency =>
    obtain ⟨hrequest, hpower, hdeferred, hdwell, -⟩ := raeEvaluate_of_emergency hlink hadapt hemergency
    rw [← ht] at hrequest hpower hdeferred hdwell
    refine ⟨?_, hpower, hdeferred, hdwell, hrow_kept (upshiftReached_of_emergency hemergency)⟩
    simpa [decideEmergency, Option.isSome_iff_ne_none] using hrequest
  rw [← hparams] at hv ⊢
  have hreached := upshiftReached_of_estimate hx hquiet hlink hadapt
  rw [← hv] at hreached
  refine ⟨fun he hdown => ?downshift, fun hcarried => ?upshift⟩
  case downshift =>
    have htaken : downshiftTaken u v = true := (downshiftTaken_iff u v).2 ⟨he, hdown⟩
    have hsettles := raeEvaluate_of_downshift hlink hadapt hx hquiet (by rwa [← hv])
    rw [← ht, ← hv] at hsettles
    refine ⟨hrow_kept (by simp [hreached, htaken]), by rw [hsettles.dwell, decideDownshift_dwell],
      fun deferral hdeferral => ?_⟩
    rw [← deferralApplies_iff u] at hdeferral
    refine ⟨fun h => ?_, fun h => ?_⟩
    · rw [decideDownshift_of_deferral (hdeferral.1 h)] at hsettles
      exact ⟨hsettles.request, hsettles.power, hsettles.deferred⟩
    · rw [decideDownshift_of_no_deferral (mt hdeferral.2 h)] at hsettles
      refine ⟨hsettles.power, hsettles.deferred, fun k hk hen hkdown hmax => ?_, fun hnone => ?_⟩
      · rw [hsettles.request, downshiftTarget_of_highest hk hen hkdown hmax]
      · rw [hsettles.request, downshiftTarget_of_none hnone]
  case upshift =>
    have htaken : downshiftTaken u v = false := (downshiftTaken_eq_false_iff u v).2 hcarried
    have hsettles := raeEvaluate_of_upshift hlink hadapt hx hquiet (by rwa [← hv])
    rw [← ht, ← hv] at hsettles
    obtain ⟨hpower, hdeferred⟩ := decideUpshift_power (evaluationBegins u) x v
    refine ⟨hsettles.power.trans hpower, hsettles.deferred.trans hdeferred, fun hnone => ?idle,
      fun k required hcommit hk hen hleast hup hrequired => ?counting⟩
    case idle =>
      have hentry : upshiftEntry u v = none := upshiftEntry_eq_none <| hnone.imp_right fun h k hk => by
        obtain ⟨hek, hen, hleast⟩ := Ladder.nextAbove_eq_some_iff.1 hk
        exact h k hek hen hleast
      rw [decideUpshift_of_none (s := evaluationBegins u) x hentry] at hsettles
      exact ⟨hsettles.dwell, hsettles.request, hrow_kept (by simp [hreached, hentry])⟩
    case counting =>
      have hentry : upshiftEntry u v = some k :=
        upshiftEntry_eq_some hcommit (Ladder.nextAbove_eq_some_iff.2 ⟨hk, hen, hleast⟩) hup
      rw [decideUpshift_of_some (s := evaluationBegins u) x hentry] at hsettles
      obtain ⟨hrequest, -, -, hdwell, htime⟩ := hsettles
      have hripe : upshiftRipe (evaluationBegins u) = true ↔
          required ≤ t.rae.dwell ∧ (u.ladder.active.slot u.rae.e).minDwell ≤ t.rae.timeAtProfile := by
        rw [upshiftRipe_iff, hdwell, htime, hrequired, ← requiredDwell_eq]
        rfl
      rw [htaken, hentry] at hreached
      refine ⟨hdwell.trans (succSat_eq_min ..), fun hdue hdue' => ?_, fun hearly => ?_⟩
      · have hripe : upshiftRipe (evaluationBegins u) = true := hripe.2 ⟨hdue, hdue'⟩
        exact ⟨by simpa [hripe] using hrequest, by simp [hrow, hreached, hripe]⟩
      · have hripe : upshiftRipe (evaluationBegins u) = false := by
          rw [← Bool.not_eq_true, hripe]
          omega
        exact ⟨by simpa [hripe] using hrequest, hrow_kept (by simp [hreached, hripe])⟩

end Sys2Proof.Machine
end

section
/-! PROOFS. The Diversity Selector (chapter 4): EXCLUDE BRANCH and INCLUDE BRANCH, O27; the SNR of one branch and the
combiner gain table, O49; the steps of an evaluation, O51; the switching step of SELECT, O52. -/

namespace Sys2Proof.Machine

/-! ### EXCLUDE BRANCH and INCLUDE BRANCH (R62) -/

theorem exec_excludeBranch_of_turn {code : Byte} {s t : State} (h : turn (.excludeBranch code) s = some t) :
    exec (.excludeBranch code) s = .next (setExclusion code true t) := by
  simp only [exec, execExcludeBranch, onTurn_of_some h]

theorem exec_includeBranch_of_turn {code : Byte} {s t : State} (h : turn (.includeBranch code) s = some t) :
    exec (.includeBranch code) s = .next (setExclusion code false t) := by
  simp only [exec, execIncludeBranch, onTurn_of_some h]

theorem setExclusion_eq (code : Byte) (x : Bool) (s : State) :
    setExclusion code x s =
      if code = 0#8 then respond (.ok [])
        { s with selector := { s.selector with excluded := ⟨x, s.selector.excluded.b⟩ } }
      else if code = 1#8 then respond (.ok [])
        { s with selector := { s.selector with excluded := ⟨s.selector.excluded.a, x⟩ } }
      else respond .refusedFormat s := by
  unfold setExclusion branchOf
  by_cases ha : code = 0#8
  · simp only [ha, if_true]
    rfl
  · by_cases hb : code = 1#8
    · simp only [hb, if_true]
      rfl
    · simp only [ha, hb, if_false]

/-- Settles O27: both commands set the exclusion that their code names, one to excluded and one to included. -/
theorem branchesAreExcludedAndIncluded : Obligations.BranchesAreExcludedAndIncluded := fun code s t =>
  ⟨fun h => by rw [exec_excludeBranch_of_turn h, setExclusion_eq],
    fun h => by rw [exec_includeBranch_of_turn h, setExclusion_eq]⟩

/-! ### The estimate (R58 to R60) -/

theorem combinerGain_eq (i : Nat) :
    combinerGain i =
      (match i with
       | 0 => 30 | 1 => 25 | 2 => 21 | 3 => 18 | 4 => 15 | 5 => 12 | 6 => 10 | 7 => 8 | 8 => 6 | 9 => 5
       | 10 => 4 | 11 => 3 | 12 => 3 | 13 => 2 | 14 => 2
       | n => if n < 20 then 1 else 0) := by
  by_cases hi : i < 20
  · interval_cases i <;> rfl
  · obtain ⟨k, rfl⟩ : ∃ k, i = k + 20 := ⟨i - 20, by omega⟩
    exact (if_neg (by omega)).symm

theorem singleEstimate_eq_some {l : Branch} {s : State} {x : Estimate} (h : singleEstimate l s = some x) :
    ∃ f, (s.monitor.get l).filter = some f ∧ x.snr = (f + 32) / 64 := by
  unfold singleEstimate Monitor.snr at h
  cases hf : (s.monitor.get l).filter with
  | none => simp [hf] at h
  | some f =>
    cases hr : (s.monitor.get l).rsl with
    | none => simp [hf, hr] at h
    | some r =>
      simp only [hf, hr, Option.map_some, Option.some.injEq] at h
      exact ⟨f, rfl, by rw [← h]; rfl⟩

theorem singleEstimate_of_readings {l : Branch} {s : State} {f : Nat} {r : Int}
    (hf : (s.monitor.get l).filter = some f) (hr : (s.monitor.get l).rsl = some r) :
    singleEstimate l s = some ⟨(f + 32) / 64, (s.monitor.get l).slope s.params.slopeSpan, r, .one l⟩ := by
  simp only [singleEstimate, Monitor.snr, hf, hr, Option.map_some, snrOf]

/-- Settles O49: the SNR of one branch is read from its filter state, and the gain of two is the table's at the rounded
distance. -/
theorem combinedSnrFollowsTheTable : Obligations.CombinedSnrFollowsTheTable := by
  refine ⟨fun l s x h => singleEstimate_eq_some h, ?_⟩
  rintro x y a b d i - - rfl rfl rfl rfl
  exact congrArg (fun c => min 500 (max x y + c)) (combinerGain_eq _)

/-! ### Steps 1 and 2: mode and usability (R53, R63) -/

theorem firstUnderMode_iff (s : State) :
    firstUnderMode s = true ↔ s.selector.mode = none ∨ s.selector.modeWrite = true := by
  simp [firstUnderMode]

theorem usable_iff (l : Branch) (s : State) :
    usable l s = true ↔
      (s.monitor.get l).status = .locked ∧ (s.monitor.get l).age ≤ 2 ∧ s.selector.excluded.get l = false := by
  simp only [usable, Bool.and_eq_true, decide_eq_true_eq, Bool.not_eq_true', and_assoc]
  rfl

/-- The hypotheses say which mode is in force at the evaluation. -/
theorem settleMode_selector {s : State} {mode : DiversityMode}
    (hfirst : firstUnderMode s = true → mode = s.params.mode)
    (hlater : ¬ firstUnderMode s = true → s.selector.mode = some mode) :
    (settleMode s).selector = { s.selector with
      mode := some mode
      modeWrite := false
      dwell := if firstUnderMode s then 0 else s.selector.dwell } := by
  unfold settleMode
  by_cases h : firstUnderMode s = true
  · simp [h, hfirst h]
  · have hwrite : s.selector.modeWrite = false := by
      rw [firstUnderMode_iff, not_or, Bool.not_eq_true] at h
      exact h.2
    have hkept : { s.selector with mode := some mode, modeWrite := false } = s.selector := by
      rw [← hlater h, ← hwrite]
    rw [if_neg h, if_neg h]
    exact hkept.symm

theorem selectorPrepared_selector {s : State} {mode : DiversityMode}
    (hfirst : firstUnderMode s = true → mode = s.params.mode)
    (hlater : ¬ firstUnderMode s = true → s.selector.mode = some mode) :
    (selectorPrepared s).selector = { s.selector with
      mode := some mode
      modeWrite := false
      dwell := if firstUnderMode s then 0 else s.selector.dwell
      usable := ⟨usable .a s, usable .b s⟩ } := by
  simp only [selectorPrepared, storeUsable, usable, State.withSelector_selector, settleMode_frame,
    settleMode_selector hfirst hlater]

/-! ### Step 3: choice (R54 to R57) -/

theorem chooseActive_of_select {s : State} (h : s.selector.mode = some .select) :
    chooseActive s = switchingStep s := by
  simp only [chooseActive, h]

theorem chooseActive_of_not_select {s : State} (h : s.selector.mode ≠ some .select) : chooseActive s = s := by
  unfold chooseActive
  split
  · exact absurd ‹_› h
  · rfl

theorem switchingStep_of_switches {s : State} (h : switches s = true) : switchingStep s = switchBranch s := by
  simp only [switchingStep, h, if_true]

theorem switchingStep_of_better {s : State} (h : switches s = false) (hbetter : otherBetter s = true) :
    switchingStep s = s.withSelector { s.selector with dwell := s.selector.dwell + 1 } := by
  simp [switchingStep, h, hbetter]

theorem switchingStep_of_not_better {s : State} (h : switches s = false) (hbetter : otherBetter s = false) :
    switchingStep s = s.withSelector { s.selector with dwell := 0 } := by
  simp [switchingStep, h, hbetter]

/-- The choice touches the active branch and the selection dwell count alone. -/
theorem chooseActive_selector (s : State) :
    ∃ active dwell, (chooseActive s).selector = { s.selector with active := active, dwell := dwell } := by
  unfold chooseActive switchingStep switchBranch
  split
  · split
    · exact ⟨_, _, (raise_frame ..).2.2.2.2.1⟩
    · split <;> exact ⟨_, _, rfl⟩
  · exact ⟨_, _, rfl⟩

theorem RaisesOnly.chooseActive (s : State) : RaisesOnly s (chooseActive s) := by
  unfold Machine.chooseActive switchingStep switchBranch
  split
  · split
    · exact RaisesOnly.raise _ (s.withSelector _)
    · split <;> exact .of_control rfl
  · exact .refl s

/-! ### Step 4: the branches that govern (R54, R56, R57, R60) -/

/-- The branch named by the mode governs when it is usable; in COMBINE one branch governs alone when the other is not
usable. -/
theorem governing_eq_governIf {s : State} {mode : DiversityMode} {l : Branch} (hmode : s.selector.mode = some mode)
    (h : (mode = .singleA ∧ l = .a) ∨ (mode = .singleB ∧ l = .b) ∨ (mode = .select ∧ s.selector.active = l)
      ∨ (mode = .combine ∧ ∀ k, k ≠ l → s.selector.usable.get k = false)) :
    governing s = governIf l s := by
  obtain ⟨rfl, rfl⟩ | ⟨rfl, rfl⟩ | ⟨rfl, rfl⟩ | ⟨rfl, hother⟩ := h
  · simp only [governing, hmode]
  · simp only [governing, hmode]
  · simp only [governing, hmode]
  · cases l with
    | a =>
      have hb : s.selector.usable.b = false := hother .b (by decide)
      cases ha : s.selector.usable.a <;> simp [governing, governIf, hmode, ha, hb]
    | b =>
      have ha : s.selector.usable.a = false := hother .a (by decide)
      cases hb : s.selector.usable.b <;> simp [governing, governIf, hmode, ha, hb]

theorem formEstimate_governIf_of_unusable {s : State} {l : Branch} (h : s.selector.usable.get l = false) :
    formEstimate (governIf l s) s = none := by
  simp [governIf, formEstimate, h]

theorem formEstimate_governIf_of_usable {s : State} {l : Branch} (h : s.selector.usable.get l = true) :
    formEstimate (governIf l s) s = singleEstimate l s := by
  simp [governIf, formEstimate, h]

theorem governing_both {s : State} (hmode : s.selector.mode = some .combine)
    (h : s.selector.usable = ⟨true, true⟩) : governing s = some .both := by
  simp [governing, hmode, h]

theorem formEstimate_both {s : State} {x y : Estimate} (hx : singleEstimate .a s = some x)
    (hy : singleEstimate .b s = some y) : formEstimate (some .both) s = some (combineEstimates x y) := by
  simp only [formEstimate, hx, hy]

/-! ### Step 5: order (R61) -/

/-- The order called for is the last one sent, whether this evaluation sends it or has no need to. -/
theorem orderStep_selector (first : Bool) (s : State) :
    (orderStep first s).selector = { s.selector with lastOrder := some (orderCalledFor s) } := by
  unfold orderStep
  split
  · rfl
  · rename_i h
    have hlast : s.selector.lastOrder = some (orderCalledFor s) := by
      by_contra hne
      exact h (by simp [hne])
    rw [← hlast]

theorem orderStep_modem_of_sent {first : Bool} {s : State}
    (h : first = true ∨ s.selector.lastOrder ≠ some (orderCalledFor s)) (l : Branch) :
    (orderStep first s).modem.get l = (s.modem.get l).issue (.branch (orderCalledFor s)) := by
  rw [orderStep, if_pos (by simpa using h), sendBranchOrder, issueBoth_get]
  rfl

theorem orderStep_modem_of_kept {first : Bool} {s : State} (hfirst : first = false)
    (h : s.selector.lastOrder = some (orderCalledFor s)) : (orderStep first s).modem = s.modem := by
  simp [orderStep, hfirst, h]

theorem ModemLink.issue_eq (k : ModemLink) (m : ModemMessage) :
    k.issue m = { k with waiting := if k.up then k.waiting ++ [m] else k.waiting } := by
  unfold ModemLink.issue
  split <;> rfl

/-- The order that each mode calls for, with the mode's own reading of the state. -/
theorem orderCalledFor_eq {s : State} {mode : DiversityMode} {order : BranchOrder}
    (hmode : s.selector.mode = some mode) (ha : mode = .singleA → order = .a) (hb : mode = .singleB → order = .b)
    (hselect : mode = .select → order = match s.selector.active with | .a => BranchOrder.a | .b => .b)
    (hcombine : mode = .combine → order = match s.selector.usable.a, s.selector.usable.b with
      | true, true => BranchOrder.combine
      | true, false => .a
      | false, true => .b
      | false, false => s.selector.lastOrder.getD .combine) :
    orderCalledFor s = order := by
  cases mode with
  | singleA => simp only [orderCalledFor, hmode, ha rfl]
  | singleB => simp only [orderCalledFor, hmode, hb rfl]
  | select =>
    have hnamed : orderCalledFor s = orderFor s.selector.active := by simp only [orderCalledFor, hmode]
    exact hnamed.trans (hselect rfl).symm
  | combine =>
    rw [hcombine rfl]
    cases ha : s.selector.usable.a <;> cases hb : s.selector.usable.b <;> simp only [orderCalledFor, hmode, ha, hb]

/-! ### The evaluation (R52) -/

/-- A statement speaks of its own proposition for the first evaluation under a mode: it is `firstUnderMode`. -/
theorem eq_firstUnderMode {s : State} {first : Prop}
    (h : first ↔ s.selector.mode = none ∨ s.selector.modeWrite = true) : first = (firstUnderMode s = true) :=
  propext (h.trans (firstUnderMode_iff s).symm)

/-- The state in which the estimate is formed and the order called for: steps 1 to 3 done. -/
def selectorChosen (s : State) : State := chooseActive (selectorPrepared s)

theorem selectorEvaluate_eq (s : State) :
    selectorEvaluate s = orderStep (firstUnderMode s) (storeEstimate (selectorChosen s)) := rfl

@[simp] theorem selectorChosen_monitor (s : State) : (selectorChosen s).monitor = s.monitor := by
  simp [selectorChosen]

@[simp] theorem selectorChosen_params (s : State) : (selectorChosen s).params = s.params := by
  simp [selectorChosen]

theorem selectorEvaluate_selector (s : State) :
    (selectorEvaluate s).selector = { (selectorChosen s).selector with
      estimate := formEstimate (governing (selectorChosen s)) (selectorChosen s)
      lastOrder := some (orderCalledFor (selectorChosen s)) } :=
  orderStep_selector ..

theorem selectorEvaluate_control (s : State) : (selectorEvaluate s).control = (selectorChosen s).control := by
  simp [selectorEvaluate_eq]

theorem selectorEvaluate_raisesOnly (s : State) : RaisesOnly s (selectorEvaluate s) := by
  have hprepared : RaisesOnly s (selectorPrepared s) := .of_control (by simp)
  exact (hprepared.trans (.chooseActive _)).then_control (selectorEvaluate_control s)

/-- What no choice touches stands as steps 1 and 2 have left it. -/
theorem selectorChosen_selector {s : State} {mode : DiversityMode}
    (hfirst : firstUnderMode s = true → mode = s.params.mode)
    (hlater : ¬ firstUnderMode s = true → s.selector.mode = some mode) :
    ∃ active dwell, (selectorChosen s).selector = { s.selector with
      mode := some mode
      modeWrite := false
      active := active
      dwell := dwell
      usable := ⟨usable .a s, usable .b s⟩ } := by
  obtain ⟨active, dwell, h⟩ := chooseActive_selector (selectorPrepared s)
  exact ⟨active, dwell, by rw [selectorChosen, h, selectorPrepared_selector hfirst hlater]⟩

theorem exec_evaluation (s : State) : exec .evaluation s = .next (raeEvaluate (selectorEvaluate s)) := rfl

theorem exec_branchSwitched (s : State) :
    exec .branchSwitched s = .next (if evaluationSwitches s then raeEvaluate (selectorEvaluate s) else s) := rfl

/-- Settles O51: the selector that the steps leave is written out by `selectorEvaluate_selector`, and each clause reads
one step's lemma from it. -/
theorem selectorEvaluates : Obligations.SelectorEvaluates := by
  intro s first mode hfirst hmode hlater
  obtain rfl := eq_firstUnderMode hfirst
  have hu := selectorEvaluate_selector s
  obtain ⟨active, dwell, hc⟩ := selectorChosen_selector hmode hlater
  have husable : (selectorEvaluate s).selector.usable = (selectorChosen s).selector.usable := by rw [hu]
  have hactive : (selectorEvaluate s).selector.active = (selectorChosen s).selector.active := by rw [hu]
  have hestimate : (selectorEvaluate s).selector.estimate
      = formEstimate (governing (selectorChosen s)) (selectorChosen s) := by rw [hu]
  have hchosen : (selectorChosen s).selector.mode = some mode := by rw [hc]
  refine ⟨selectorEvaluate s, exec_evaluation s, by rw [hu, hc], by rw [hu, hc], by rw [hu, hc], fun l => ?usable,
    fun hselect => ?unchosen, fun l f r hone => ?single, fun f g r q hcombine hboth hf hg hr hq => ?both,
    fun order ha hb hs hcombine => ?order, ?frame⟩
  case usable =>
    rw [husable, hc, ← usable_iff]
    cases l <;> rfl
  case unchosen =>
    have hprepared := selectorPrepared_selector hmode hlater
    have hkept : selectorChosen s = selectorPrepared s :=
      chooseActive_of_not_select (by rw [hprepared]; simpa using hselect)
    refine ⟨by rw [hactive, hkept, hprepared], by rw [selectorEvaluate_control, hkept, selectorPrepared]; simp, ?_⟩
    rw [hu, hkept, hprepared]
    exact ⟨fun h => if_pos h, fun h => if_neg h⟩
  case single =>
    rw [husable, hactive] at hone
    rw [husable, hestimate, governing_eq_governIf hchosen hone]
    refine ⟨formEstimate_governIf_of_unusable, fun h hf hr => ?_⟩
    rw [formEstimate_governIf_of_usable h,
      singleEstimate_of_readings (by simpa using hf) (by simpa using hr)]
    simp
  case both =>
    subst hcombine
    rw [husable] at hboth
    rw [hestimate, governing_both hchosen hboth,
      formEstimate_both (singleEstimate_of_readings (by simpa using hf) (by simpa using hr))
        (singleEstimate_of_readings (by simpa using hg) (by simpa using hq))]
    simp [combineEstimates]
  case order =>
    have hlast : (selectorChosen s).selector.lastOrder = s.selector.lastOrder := by rw [hc]
    have hstored : (storeEstimate (selectorChosen s)).selector.lastOrder = s.selector.lastOrder := hlast
    have hmodem : (storeEstimate (selectorChosen s)).modem = s.modem := by simp [selectorChosen]
    rw [hactive] at hs
    rw [husable, ← hlast] at hcombine
    have horder : orderCalledFor (storeEstimate (selectorChosen s)) = order :=
      orderCalledFor_eq (s := selectorChosen s) hchosen ha hb hs hcombine
    have hsent : (selectorEvaluate s).selector.lastOrder = some order := by rw [← horder, hu]; rfl
    refine ⟨fun h => ⟨hsent, fun l => ?_⟩, fun h hsame => ⟨hsent, ?_⟩⟩
    · rw [selectorEvaluate_eq, orderStep_modem_of_sent (by rwa [hstored, horder]), hmodem, horder, ModemLink.issue_eq]
    · rw [selectorEvaluate_eq, orderStep_modem_of_kept (by simpa using h) (by rwa [hstored, horder]), hmodem]
  case frame =>
    exact State.eq_of_blocks (by simp [← (selectorEvaluate_raisesOnly s).control_eq])

/-! ### The switching step of SELECT (R55, R56) -/

theorem eq_otherBranch {now other : Branch} (h : other ≠ now) : other = otherBranch now := by
  cases now <;> cases other <;> simp_all [otherBranch]

theorem branchSnr_of_filter {l : Branch} {s : State} {f : Nat} (h : (s.monitor.get l).filter = some f) :
    branchSnr l s = (f + 32) / 64 := by
  simp [branchSnr, Monitor.snr, h, snrOf]

theorem activeLost_iff (s : State) :
    activeLost s = true ↔ s.selector.usable.get s.selector.active = false
      ∧ s.selector.usable.get (otherBranch s.selector.active) = true := by
  simp [activeLost]

theorem otherBetter_iff (s : State) :
    otherBetter s = true ↔ (s.selector.usable.get s.selector.active = true
      ∧ s.selector.usable.get (otherBranch s.selector.active) = true)
      ∧ branchSnr s.selector.active s < branchSnr (otherBranch s.selector.active) s
      ∧ s.params.selectHysteresis ≤ branchSnr (otherBranch s.selector.active) s - branchSnr s.selector.active s := by
  have hboth : (s.selector.usable.a && s.selector.usable.b) = true ↔
      s.selector.usable.get s.selector.active = true
        ∧ s.selector.usable.get (otherBranch s.selector.active) = true := by
    cases s.selector.active <;> simp [otherBranch, and_comm]
  rw [← hboth]
  simp [otherBetter, and_assoc]

theorem switches_iff (s : State) :
    switches s = true ↔ activeLost s = true
      ∨ (otherBetter s = true ∧ s.params.selectDwell ≤ s.selector.dwell + 1) := by
  simp [switches]

/-- What an evaluation in SELECT leaves of its choice, and the state after the row BRANCH_SWITCHED. -/
structure Chooses (s : State) (active : Branch) (dwell : Nat) (raised : EventSet) (row : State) : Prop where
  active : (selectorEvaluate s).selector.active = active
  dwell : (selectorEvaluate s).selector.dwell = dwell
  control : (selectorEvaluate s).control = s.control.afterRaising raised
  row : exec .branchSwitched s = .next row

/-- An evaluation that raises nothing leaves the Control Link Interface as it was. -/
theorem Chooses.control_kept {s row : State} {active : Branch} {dwell : Nat} (h : Chooses s active dwell 0#21 row) :
    (selectorEvaluate s).control = s.control := by
  rw [h.control, afterRaising_none]

/-- In SELECT the switching step on the prepared state says what the evaluation leaves. -/
theorem chooses_of_switchingStep {s t : State} {raised : EventSet}
    (hmode : (selectorPrepared s).selector.mode = some .select) (ht : switchingStep (selectorPrepared s) = t)
    (hcontrol : t.control = (selectorPrepared s).control.afterRaising raised) :
    Chooses s t.selector.active t.selector.dwell raised
      (if switches (selectorPrepared s) then raeEvaluate (selectorEvaluate s) else s) := by
  have hchosen : selectorChosen s = t := (chooseActive_of_select hmode).trans ht
  have hu := selectorEvaluate_selector s
  rw [hchosen] at hu
  refine ⟨by rw [hu], by rw [hu], ?_, ?_⟩
  · rw [selectorEvaluate_control, hchosen, hcontrol]
    simp
  · simp only [exec_branchSwitched, evaluationSwitches, hmode, decide_true, Bool.true_and]

theorem chooses_of_switches {s : State} (hmode : (selectorPrepared s).selector.mode = some .select)
    (h : switches (selectorPrepared s) = true) :
    Chooses s (otherBranch (selectorPrepared s).selector.active) 0 Event.branchSwitched.flag
      (raeEvaluate (selectorEvaluate s)) := by
  have hchooses := chooses_of_switchingStep hmode (switchingStep_of_switches h) (raise_control ..)
  rwa [if_pos h] at hchooses

theorem chooses_of_better {s : State} (hmode : (selectorPrepared s).selector.mode = some .select)
    (h : switches (selectorPrepared s) = false) (hbetter : otherBetter (selectorPrepared s) = true) :
    Chooses s (selectorPrepared s).selector.active ((selectorPrepared s).selector.dwell + 1) 0#21 s := by
  have hchooses := chooses_of_switchingStep hmode (switchingStep_of_better h hbetter) (afterRaising_none _).symm
  rwa [if_neg (by simp [h])] at hchooses

theorem chooses_of_not_better {s : State} (hmode : (selectorPrepared s).selector.mode = some .select)
    (h : switches (selectorPrepared s) = false) (hbetter : otherBetter (selectorPrepared s) = false) :
    Chooses s (selectorPrepared s).selector.active 0 0#21 s := by
  have hchooses := chooses_of_switchingStep hmode (switchingStep_of_not_better h hbetter) (afterRaising_none _).symm
  rwa [if_neg (by simp [h])] at hchooses

theorem selectorEvaluate_usable (s : State) :
    (selectorEvaluate s).selector.usable = (selectorPrepared s).selector.usable := by
  obtain ⟨_, _, h⟩ := chooseActive_selector (selectorPrepared s)
  rw [selectorEvaluate_selector, selectorChosen, h]

/-- Settles O52: the readings of the two branches say whether the active one is lost and whether the other is better,
and with the dwell count these say which row of R55 the switching step takes. -/
theorem selectSwitches : Obligations.SelectSwitches := by
  intro s first mode hfirst hmode hlater
  obtain rfl := eq_firstUnderMode hfirst
  have hprepared := selectorPrepared_selector hmode hlater
  refine ⟨fun hselect => ?_, ?_⟩
  · rw [exec_branchSwitched, evaluationSwitches, hprepared]
    simp [hselect]
  rintro rfl now other dwell hnow hother hzero hcount
  have hin : (selectorPrepared s).selector.mode = some .select := by rw [hprepared]
  have hactive : (selectorPrepared s).selector.active = now := by rw [hprepared, hnow]
  have hdwell : (selectorPrepared s).selector.dwell = dwell := by
    rw [hprepared]
    by_cases h : firstUnderMode s = true
    · exact (if_pos h).trans (hzero h).symm
    · exact (if_neg h).trans (hcount h).symm
  have hother : otherBranch (selectorPrepared s).selector.active = other := by
    rw [hactive, eq_otherBranch hother]
  have hlost := activeLost_iff (selectorPrepared s)
  have hbetter := otherBetter_iff (selectorPrepared s)
  have hswitches := switches_iff (selectorPrepared s)
  rw [hother, hactive, ← selectorEvaluate_usable] at hlost hbetter
  rw [hdwell] at hswitches
  have hsnr : ∀ l f, (s.monitor.get l).filter = some f → branchSnr l (selectorPrepared s) = (f + 32) / 64 :=
    fun l f hf => branchSnr_of_filter (by simpa using hf)
  simp only [selectorPrepared_frame] at hbetter hswitches
  refine ⟨selectorEvaluate s, exec_evaluation s, fun hn ho => ?lost, fun f g hn ho hf hg hlt hhyst => ?better,
    fun hrest => ?rest⟩
  case lost =>
    have h := chooses_of_switches hin (hswitches.2 (.inl (hlost.2 ⟨hn, ho⟩)))
    rw [hother] at h
    exact ⟨h.active, h.dwell, h.control, h.row⟩
  case better =>
    rw [hsnr now f hf, hsnr other g hg] at hbetter
    have hb : otherBetter (selectorPrepared s) = true := hbetter.2 ⟨⟨hn, ho⟩, hlt, hhyst⟩
    refine ⟨fun hdue => ?_, fun hearly => ?_⟩
    · have h := chooses_of_switches hin (hswitches.2 (.inr ⟨hb, hdue⟩))
      rw [hother] at h
      exact ⟨h.active, h.dwell, h.control, h.row⟩
    · have hkeeps : switches (selectorPrepared s) = false := by
        rw [← Bool.not_eq_true, hswitches, hlost, hn]
        simp [hb, hearly]
      have h := chooses_of_better hin hkeeps hb
      rw [hactive, hdwell] at h
      exact ⟨h.active, h.dwell, h.control_kept, h.row⟩
  case rest =>
    have hb : otherBetter (selectorPrepared s) = false := by
      rw [← Bool.not_eq_true, hbetter]
      rintro ⟨⟨-, ho⟩, hlt, hhyst⟩
      obtain hno | ⟨-, f, g, hf, hg, hworse⟩ := hrest
      · simp [hno] at ho
      · rw [hsnr now f hf, hsnr other g hg] at hlt hhyst
        omega
    have hkeeps : switches (selectorPrepared s) = false := by
      rw [← Bool.not_eq_true, hswitches, hlost]
      rintro (⟨hn, ho⟩ | ⟨h, -⟩)
      · obtain hno | ⟨hn', -⟩ := hrest
        · simp [hno] at ho
        · simp [hn'] at hn
      · simp [hb] at h
    have h := chooses_of_not_better hin hkeeps hb
    rw [hactive] at h
    exact ⟨h.active, h.dwell, h.control_kept, h.row⟩

end Sys2Proof.Machine
end

section
/-! PROOFS. READ STATUS (chapter 10): O12. -/

namespace Sys2Proof.Machine

theorem exec_readStatus_of_turn {s t : State} (h : turn .readStatus s = some t) :
    exec .readStatus s = .next (readStatus t) := by
  simp only [exec, execReadStatus, onTurn_of_some h]

/-! ### The size of each group (R176, R190) -/

@[simp] theorem optInt16_length (o : Option Int) : (optInt16 o).length = 2 := by cases o <;> rfl

@[simp] theorem commitBytes_length (k : Option Commit) : (commitBytes k).length = 3 := by cases k <;> rfl

@[simp] theorem digestBytes_length (d : Option (BitVec 16)) : (digestBytes d).length = 3 := by cases d <;> rfl

theorem statusLink_length (s : State) : (statusLink s).length = 3 := by unfold statusLink; split <;> rfl

theorem statusRae_length (r : Rae) : (statusRae r).length = 11 := by simp [statusRae]

theorem statusTae_length (t : Tae) : (statusTae t).length = 7 := by simp [statusTae]

theorem statusPeer_length (s : State) : (statusPeer s).length = 10 := by simp [statusPeer]

theorem statusSelector_length (s : State) : (statusSelector s).length = 4 := by simp [statusSelector]

theorem statusBranch_length (m : Monitor) (f : FadeClassifier) (span : Nat) :
    (statusBranch m f span).length = 11 := by simp [statusBranch, beInt16, be16]

theorem eventBytes_length (set : EventSet) : (eventBytes set).length = 3 := rfl

theorem statusReport_length (s : State) : (statusReport s).length = 60 := by
  simp only [statusReport, List.length_append, statusLink_length, statusRae_length, statusTae_length,
    statusPeer_length, statusSelector_length, statusBranch_length, eventBytes_length]

/-! ### The coding of the items (R180, R190) -/

theorem beInt16_natCast (n : Nat) : beInt16 n = be16 (BitVec.ofNat 16 n) :=
  congrArg be16 (BitVec.ofInt_natCast ..)

theorem byteOf_stateCode (r : Rae) :
    byteOf r.stateCode = if r.commit.isSome then 0#8 else if r.request.kind = .none then 2#8 else 1#8 := by
  unfold Rae.stateCode Rae.requesting
  cases r.commit <;> cases r.request.kind <;> rfl

theorem statusTae_eq (t : Tae) :
    statusTae t = [byteOf t.c]
      ++ (match t.state with
          | .steady => [0#8, 0xFF#8, 0xFF#8, 0#8, 0#8]
          | .draining d _ _ => [1#8, byteOf d, 0xFF#8, 0#8, 0#8]
          | .committed k => [2#8, 0xFF#8, byteOf k.profile] ++ be16 k.switch)
      ++ [byteOf t.attenuation] := by
  unfold statusTae Tae.commit?
  cases t.state <;> rfl

theorem append_congr {α : Type} {a b c d : List α} (h : a = c) (h' : b = d) : a ++ b = c ++ d := by rw [h, h']

/-- Settles O12: the report goes out group by group in the order of R176, and in each group the items are coded by their
own table. -/
theorem readStatusReportsTheState : Obligations.ReadStatusReportsTheState := by
  intro s t h
  refine ⟨statusReport t, fun m f => statusBranch m f t.params.slopeSpan, exec_readStatus_of_turn h,
    statusReport_length t, funext fun m => funext fun f => ?branch, ?report⟩
  case branch =>
    refine append_congr (append_congr (append_congr (append_congr ?status ?snr) rfl) ?rsl) rfl
    case status => cases m.status <;> rfl
    case snr =>
      unfold Monitor.snr
      cases m.filter with
      | none => rfl
      | some f => exact beInt16_natCast (snrOf f)
    case rsl => cases m.rsl <;> rfl
  case report =>
    simp only [statusReport, statusRae, statusTae_eq, statusPeer, statusSelector, List.append_assoc]
    -- The items passed by with `rfl` are the commit, the group of the TAE, the two digests with the headroom and the
    -- transmit profile, and from the branches on.
    refine append_congr ?link <| append_congr ?rae <| append_congr rfl <| append_congr ?predicted <|
      append_congr rfl <| append_congr rfl <| append_congr rfl <| append_congr ?channel <| append_congr rfl <|
      append_congr rfl <| append_congr rfl <| append_congr ?choice <| append_congr ?estimate rfl
    case link =>
      unfold statusLink
      cases t.link with
      | acquire w => cases w <;> rfl
      | _ => rfl
    case rae =>
      rw [byteOf_stateCode]
      cases t.rae.request.kind <;> cases t.rae.power <;> rfl
    case predicted =>
      cases t.rae.predicted with
      | none => rfl
      | some x => exact beInt16_natCast x
    case channel => cases t.peer.state <;> rfl
    case choice => cases t.selector.mode with
      | none => cases t.params.mode <;> cases t.selector.active <;> rfl
      | some m => cases m <;> cases t.selector.active <;> rfl
    case estimate =>
      cases t.selector.estimate with
      | none => rfl
      | some x => exact beInt16_natCast x.snr

end Sys2Proof.Machine
end

section
/-! SUPPORT. The laws that tie the engines together, taken apart for each engine: what the RAE and the TAE meet on a
ladder and under a link state, as structures of named parts, with one lemma for each way in which the model changes an
engine. -/

namespace Sys2Proof.Machine

/-! ### Profiles of a lawful ladder (R6, R14) -/

theorem Ladder.enabledAt_le {l : Ladder} {i : Nat} (h : l.enabledAt i = true) : i ≤ 11 :=
  Nat.le_of_lt_succ (Ladder.lt_slotCount_of_enabledAt h)

/-- A non-empty active ladder has its reference entry enabled (R14). -/
theorem ProfileLadder.Lawful.enabledAt_zero {l : ProfileLadder} (h : l.Lawful) (hcount : l.active.count ≠ 0) :
    l.active.enabledAt 0 = true := by
  obtain ⟨-, -, -, hvalid, -⟩ := h
  have h0 : l.active.violates 3 0 = false := (l.active.failure_eq_none_iff.1 (hvalid.resolve_left hcount)) 3 0
  have henabled : (l.active.slot 0).enabled = true := by simpa [Ladder.violates] using h0
  simp [Ladder.enabledAt, henabled, Nat.pos_of_ne_zero hcount]

/-! ### The TAE (R118, R119, R131) -/

/-- The TAE state on ladder `l`, with current profile `c` and last slot number `last`: a drain is toward an enabled entry
below *c* and runs below its limit, and a commit names another enabled entry and is not due yet. -/
def TaeState.Sound (l : Ladder) (c : Nat) (last : Option Superframe) : TaeState → Prop
  | .steady => True
  | .draining d timer limit => d < c ∧ l.enabledAt d = true ∧ timer < limit ∧ limit ≤ 1000
  | .committed k => k.profile ≠ c ∧ l.enabledAt k.profile = true ∧ ∀ n ∈ last, atOrAfter n k.switch = false

/-- What the TAE meets on ladder `l` in every link state. -/
structure Tae.Sound (l : Ladder) (t : Tae) : Prop where
  profile : t.c ≠ 0 → l.enabledAt t.c = true
  slot : t.c ≠ 0 ∨ t.state ≠ .steady → t.lastSlot.isSome = true
  state : t.state.Sound l t.c t.lastSlot
  attenuation : t.attenuation ≤ 80
  slew : t.slew ≤ 127

/-- What the TAE meets on ladder `l` under link state `x`. -/
structure Tae.SoundIn (x : LinkState) (l : Ladder) (t : Tae) : Prop where
  sound : t.Sound l
  atRest : x = .offline → t.c = 0 ∧ t.state = .steady
  noDrain : x.adapting = false → t.state.drain? = none

/-- "*N* is after *n*_last or exactly half the numbering away" says that the switch is not due at *n*_last. -/
theorem not_due_iff (m n : Superframe) :
    (isAfter m n || decide ((n - m).toNat = 32768)) = true ↔ atOrAfter n m = false := by
  rw [Bool.or_eq_true, isAfter_iff, decide_eq_true_eq, ← Bool.not_eq_true, atOrAfter_iff]
  bv_omega

theorem not_due_plusLead (n : Superframe) {k : Nat} (h : 0 < k) (h' : k ≤ 255) :
    atOrAfter n (plusLead n k) = false := by
  rw [← not_due_iff, isAfter_plusLead n k h (by omega), Bool.true_or]

theorem LinkState.not_offline_of_adapting {x : LinkState} (h : x.adapting = true) : x ≠ .offline := by
  rintro rfl
  cases h

/-- In adaptive operation the TAE may drain. -/
theorem Tae.Sound.inAdapting {x : LinkState} {l : Ladder} {t : Tae} (h : t.Sound l) (hx : x.adapting = true) :
    t.SoundIn x l :=
  ⟨h, fun e => absurd e (LinkState.not_offline_of_adapting hx), fun e => by rw [hx] at e; cases e⟩

/-- With no drain in progress the TAE is sound in every link state but OFFLINE. -/
theorem Tae.Sound.inRunning {x : LinkState} {l : Ladder} {t : Tae} (h : t.Sound l) (hx : x ≠ .offline)
    (hdrain : t.state.drain? = none) : t.SoundIn x l :=
  ⟨h, fun e => absurd e hx, fun _ => hdrain⟩

/-- The attenuation, the slew counter, the owed fallback and the counts are apart from the rest. -/
theorem Tae.SoundIn.withPower {x : LinkState} {l : Ladder} {t : Tae} (h : t.SoundIn x l) {a n : Nat} (ha : a ≤ 80)
    (hn : n ≤ 127) (owed : Bool) (k : TaeCounters) :
    Tae.SoundIn x l { t with attenuation := a, slew := n, fallbackOwed := owed, counters := k } :=
  ⟨⟨h.sound.profile, h.sound.slot, h.sound.state, ha, hn⟩, h.atRest, h.noDrain⟩

theorem Tae.Sound.steady {l : Ladder} {t : Tae} (h : t.Sound l) : Tae.Sound l { t with state := .steady } :=
  ⟨h.profile, fun e => h.slot (.inl (e.resolve_right fun ne => ne rfl)), trivial, h.attenuation, h.slew⟩

theorem Tae.Sound.toDrain {l : Ladder} {t : Tae} (h : t.Sound l) {d timer limit : Nat} (hd : d < t.c)
    (hen : l.enabledAt d = true) (hslot : t.lastSlot.isSome = true) (htimer : timer < limit) (hlimit : limit ≤ 1000) :
    Tae.Sound l { t with state := .draining d timer limit } :=
  ⟨h.profile, fun _ => hslot, ⟨hd, hen, htimer, hlimit⟩, h.attenuation, h.slew⟩

/-- No drain goes below profile 0. -/
theorem Tae.Sound.noDrain_of_zero {l : Ladder} {t : Tae} (h : t.Sound l) (hc : t.c = 0) :
    t.state.drain? = none := by
  have hstate := h.state
  cases hs : t.state with
  | draining d timer limit =>
    rw [hs] at hstate
    have hd : d < t.c := hstate.1
    omega
  | _ => rfl

theorem Tae.SoundIn.resetAt (l : Ladder) {a : Nat} (ha : a ≤ 80) : (Tae.resetAt a).SoundIn .offline l :=
  ⟨⟨fun e => absurd rfl e, by simp [Tae.resetAt], trivial, ha, Nat.zero_le _⟩, fun _ => ⟨rfl, rfl⟩, fun _ => rfl⟩

/-- The laws of the TAE and the ranges of its counts, in the terms of Safety.lean. -/
theorem taeSoundIn_iff {s : State} (hzero : s.link ≠ .offline → s.ladder.active.enabledAt 0 = true) :
    s.tae.SoundIn s.link s.ladder.active ↔ s.TaeLawful ∧ s.tae.InRange := by
  constructor
  · rintro ⟨⟨hprofile, hslot, hstate, hatt, hslew⟩, hrest, hdrain⟩
    have hc : s.tae.c ≤ 11 := by
      by_cases h : s.tae.c = 0
      · omega
      · exact Ladder.enabledAt_le (hprofile h)
    have hrun : s.link ≠ .offline → s.ladder.active.enabledAt s.tae.c = true := fun hx => by
      by_cases h : s.tae.c = 0
      · rw [h]; exact hzero hx
      · exact hprofile h
    cases hs : s.tae.state with
    | steady =>
      refine ⟨⟨hrun, fun hx => ⟨(hrest hx).1, hs⟩, hslot, ?_, ?_⟩, hc, hatt, hslew, ?_, ?_⟩ <;>
        simp [hs, TaeState.drain?, Tae.commit?]
    | draining d timer limit =>
      rw [hs] at hstate
      obtain ⟨hd, hen, ht, hl⟩ := hstate
      have hadapt : s.link.adapting = true := by
        by_contra h
        simpa [hs, TaeState.drain?] using hdrain (by simpa using h)
      refine ⟨⟨hrun, fun hx => ?_, hslot, ?_, ?_⟩, hc, hatt, hslew, ?_, ?_⟩
      · exact ⟨(hrest hx).1, (hrest hx).2⟩
      · simpa [hs, TaeState.drain?] using ⟨hd, hen, hadapt, ht⟩
      · simp [hs, Tae.commit?]
      · simp [hs, Tae.commit?]
      · simp only [hs, TaeState.drain?, Option.mem_def, Option.some.injEq, forall_eq']
        have := Ladder.enabledAt_le hen
        omega
    | committed k =>
      rw [hs] at hstate
      obtain ⟨hne, hen, hswitch⟩ := hstate
      refine ⟨⟨hrun, fun hx => ?_, hslot, ?_, ?_⟩, hc, hatt, hslew, ?_, ?_⟩
      · exact ⟨(hrest hx).1, (hrest hx).2⟩
      · simp [hs, TaeState.drain?]
      · simp only [hs, Tae.commit?, Option.mem_def, Option.some.injEq, forall_eq']
        refine ⟨hne, hen, ?_⟩
        cases hlast : s.tae.lastSlot with
        | none => rfl
        | some n => exact (not_due_iff _ _).2 (hswitch n hlast)
      · simpa [hs, Tae.commit?] using Ladder.enabledAt_le hen
      · simp [hs, TaeState.drain?]
  · rintro ⟨⟨hrun, hrest, hslot, hdrain, hcommit⟩, -, hatt, hslew, -, hlimit⟩
    refine ⟨⟨fun hc => hrun fun hx => hc (hrest hx).1, hslot, ?_, hatt, hslew⟩, hrest, fun hx => ?_⟩
    · cases hs : s.tae.state with
      | steady => trivial
      | draining d timer limit =>
        obtain ⟨hd, hen, -, ht⟩ := hdrain ⟨d, timer, limit⟩ (by simp [hs, TaeState.drain?])
        obtain ⟨-, -, -, hl⟩ := hlimit ⟨d, timer, limit⟩ (by simp [hs, TaeState.drain?])
        exact ⟨hd, hen, ht, hl⟩
      | committed k =>
        obtain ⟨hne, hen, hall⟩ := hcommit k (by simp [hs, Tae.commit?])
        refine ⟨hne, hen, fun n hn => ?_⟩
        rw [Option.mem_def.1 hn] at hall
        exact (not_due_iff _ _).1 hall
    · cases hd : s.tae.state.drain? with
      | none => rfl
      | some d =>
        obtain ⟨-, -, hadapt, -⟩ := hdrain d hd
        rw [hx] at hadapt
        cases hadapt

/-! ### The RAE (R88, R107, R108, R114) -/

/-- What the RAE meets on ladder `l` under link state `x`. -/
structure Rae.SoundIn (x : LinkState) (l : Ladder) (r : Rae) : Prop where
  profile : x ≠ .offline → l.enabledAt r.e = true
  commit : ∀ k ∈ r.commit, k.profile ≠ r.e ∧ l.enabledAt k.profile = true
  atRest : x = .offline → r.commit = none
  range : r.InRange

theorem raeSoundIn_iff (s : State) : s.rae.SoundIn s.link s.ladder.active ↔ s.RaeLawful ∧ s.rae.InRange :=
  ⟨fun ⟨hprofile, hcommit, hrest, hrange⟩ => ⟨⟨hprofile, hcommit, hrest⟩, hrange⟩,
    fun ⟨⟨hprofile, hcommit, hrest⟩, hrange⟩ => ⟨hprofile, hcommit, hrest, hrange⟩⟩

/-- Outside OFFLINE the RAE's laws do not depend on the link state. -/
theorem Rae.SoundIn.inRunning {x y : LinkState} {l : Ladder} {r : Rae} (h : r.SoundIn x l) (hx : x ≠ .offline)
    (hy : y ≠ .offline) : r.SoundIn y l :=
  ⟨fun _ => h.profile hx, h.commit, fun e => absurd e hy, h.range⟩

theorem Request.settle_le {r : Request} {e : Nat} (hr : r.profile ≤ 11) (he : e ≤ 11) : (r.settle e).profile ≤ 11 := by
  unfold Request.settle
  split
  · exact he
  · exact hr

end Sys2Proof.Machine
end

section
/-! SUPPORT. The TAE's own operations (chapter 7) keep its laws: one lemma per operation, in the order of Transmit.lean. -/

namespace Sys2Proof.Machine

/-! ### Commits and the fallback (R129, R132) -/

/-- A lead that a commit uses. -/
def LeadInRange (lead : Nat) : Prop := 0 < lead ∧ lead ≤ 255

theorem commitLead_inRange {p : Params} (h : p.Lawful) : LeadInRange p.commitLead := by
  unfold Params.Lawful at h
  exact ⟨by omega, by omega⟩

theorem emergencyLead_inRange {s : State} (h : s.params.Lawful) : LeadInRange (emergencyLead s) := by
  unfold Params.Lawful at h
  unfold emergencyLead LeadInRange
  omega

/-- A commit to another enabled entry, with *n*_last set, ends any drain. -/
theorem recordCommit_soundIn {s : State} {x : LinkState} {p lead : Nat} {confirmed emergency : Bool}
    (h : s.tae.Sound s.ladder.active) (hx : x ≠ .offline) (hp : s.ladder.active.enabledAt p = true) (hne : p ≠ s.tae.c)
    (hslot : s.tae.lastSlot.isSome = true) (hlead : LeadInRange lead) :
    (recordCommit p lead confirmed emergency s).tae.SoundIn x s.ladder.active := by
  obtain ⟨n, hn⟩ := Option.isSome_iff_exists.1 hslot
  rw [recordCommit_tae p lead confirmed emergency s n hn]
  refine Tae.Sound.inRunning ⟨h.profile, fun _ => hslot, ⟨hne, hp, fun m hm => ?_⟩, h.attenuation, h.slew⟩ hx rfl
  obtain rfl : n = m := by simpa [hn] using hm
  exact not_due_plusLead n hlead.1 hlead.2

theorem makeCommit_soundIn {s : State} {x : LinkState} {p lead : Nat} {confirmed emergency : Bool}
    (h : s.tae.Sound s.ladder.active) (hx : x ≠ .offline) (hp : s.ladder.active.enabledAt p = true) (hne : p ≠ s.tae.c)
    (hslot : s.tae.lastSlot.isSome = true) (hlead : LeadInRange lead) :
    (makeCommit p lead confirmed emergency s).tae.SoundIn x s.ladder.active := by
  simpa [makeCommit] using recordCommit_soundIn (confirmed := confirmed) (emergency := emergency) h hx hp hne hslot hlead

/-- The fallback leaves no drain, so that it fits every link state but OFFLINE (R132). -/
theorem fallback_soundIn {s : State} {x : LinkState} (h : s.tae.Sound s.ladder.active) (hx : x ≠ .offline)
    (hzero : s.ladder.active.enabledAt 0 = true) (hp : s.params.Lawful) :
    (fallback s).tae.SoundIn x s.ladder.active := by
  have hcommit (hc : s.tae.c ≠ 0) :
      (makeCommit 0 (emergencyLead s) false false (becomeSteady s)).tae.SoundIn x s.ladder.active :=
    makeCommit_soundIn (s := becomeSteady s) h.steady hx hzero (Ne.symm hc) (h.slot (.inl hc)) (emergencyLead_inRange hp)
  unfold fallback
  split
  · split
    · exact h.inRunning hx (h.noDrain_of_zero ‹_›)
    · exact hcommit ‹_›
  · rename_i k hk
    have hdrain : s.tae.state.drain? = none := by
      unfold Tae.commit? at hk
      split at hk
      · rename_i hs
        rw [hs]
        rfl
      · cases hk
    split
    · split
      · split
        · exact h.steady.inRunning hx rfl
        · exact h.inRunning hx hdrain
      · split
        · exact h.inRunning hx hdrain
        · exact hcommit ‹_›
    · exact (h.inRunning hx hdrain).withPower h.attenuation h.slew true s.tae.counters

/-! ### Completion (R121, R122) -/

/-- The switch that falls on slot `n` leaves the TAE sound at the new *n*_last: a commit that is due is completed, and one
that stays is not due yet. -/
theorem switchDue_soundIn {s : State} (h : s.tae.SoundIn s.link s.ladder.active) (n : Superframe) :
    (switchDue n (s.withTae { s.tae with lastSlot := some n })).tae.SoundIn s.link s.ladder.active := by
  obtain ⟨⟨hprofile, -, hstate, hatt, hslew⟩, hrest, hdrain⟩ := h
  cases hs : s.tae.state with
  | steady =>
    rw [switchDue_of_not_committed (by simp [hs])]
    exact ⟨⟨hprofile, fun _ => rfl, by simp [hs, TaeState.Sound], hatt, hslew⟩, hrest, hdrain⟩
  | draining d timer limit =>
    rw [switchDue_of_not_committed (by simp [hs])]
    exact ⟨⟨hprofile, fun _ => rfl, by simpa [hs, TaeState.Sound] using hstate, hatt, hslew⟩, hrest, hdrain⟩
  | committed k =>
    rw [hs] at hstate
    obtain ⟨hne, hen, -⟩ := hstate
    have hrun : s.link ≠ .offline := fun e => by simp [hs] at hrest; exact hrest e
    rw [switchDue_of_committed (k := k) (by simpa using hs)]
    split
    · exact Tae.Sound.inRunning ⟨fun _ => hen, fun _ => rfl, trivial, hatt, hslew⟩ hrun rfl
    · rename_i hdue
      refine ⟨⟨hprofile, fun _ => rfl, ?_, hatt, hslew⟩, hrest, hdrain⟩
      simpa [hs, TaeState.Sound, ← Bool.not_eq_true, atOrAfter_iff] using ⟨hne, hen, Nat.not_lt.1 hdue⟩

theorem serveFallback_soundIn {s : State} (h : s.tae.SoundIn s.link s.ladder.active)
    (hzero : s.link ≠ .offline → s.ladder.active.enabledAt 0 = true) (hp : s.params.Lawful) :
    (serveFallback s).tae.SoundIn s.link s.ladder.active := by
  have hserved := h.withPower h.sound.attenuation h.sound.slew false s.tae.counters
  unfold serveFallback
  split
  · split
    · rename_i hholding
      have hrun : s.link ≠ .offline := fun e => by rw [e] at hholding; cases hholding
      exact fallback_soundIn (s := s.withTae { s.tae with fallbackOwed := false }) hserved.sound hrun (hzero hrun) hp
    · exact hserved
  · exact h

/-! ### Requests from the far end (R124 to R128) -/

/-- The target of a request is *c* itself or an enabled entry (R125). -/
theorem targetOf_enabledAt {l : Ladder} {c p q : Nat} (h : targetOf l c p = some q) (hzero : l.enabledAt 0 = true) :
    q = c ∨ l.enabledAt q = true := by
  unfold targetOf at h
  split at h
  · cases h
  · split at h
    · exact .inr (Ladder.nextAbove_eq_some_iff.1 h).2.1
    · split at h
      · cases h
        exact .inl rfl
      · split at h
        · cases h
          exact .inr ‹_›
        · cases h
          cases hb : l.highestBelow p (fun _ => true) with
          | none => exact .inr hzero
          | some k =>
            have hk := (find?_reverse_range_eq_some_iff.1 hb).1
            simp only [Bool.and_eq_true, decide_eq_true_eq] at hk
            exact .inr hk.1.2

section

variable {s : State} {p : Nat} (h : s.tae.Sound s.ladder.active) (hx : s.link.adapting = true)
  (hparams : s.params.Lawful) (hp : p = s.tae.c ∨ s.ladder.active.enabledAt p = true)
  (hslot : s.tae.lastSlot.isSome = true)
include h hx hparams hp hslot

theorem targetSteady_soundIn (kind : RequestKind) :
    (targetSteady p kind s).tae.SoundIn s.link s.ladder.active := by
  have hrun := LinkState.not_offline_of_adapting hx
  unfold targetSteady
  split
  · exact h.inAdapting hx
  · rename_i hne
    have hen := hp.resolve_left hne
    split
    · exact makeCommit_soundIn h hrun hen hne hslot (commitLead_inRange hparams)
    · split
      · exact makeCommit_soundIn h hrun hen hne hslot (emergencyLead_inRange hparams)
      · rename_i hlt _
        have hlimit := hparams
        unfold Params.Lawful at hlimit
        have hsound := h.toDrain (d := p) (timer := 0) (limit := s.params.drainTimeout) (by omega) hen hslot (by omega)
          (by omega)
        simpa [startDrain] using hsound.inAdapting hx

theorem targetDraining_soundIn {d timer limit : Nat} (hs : s.tae.state = .draining d timer limit) (kind : RequestKind) :
    (targetDraining d timer limit p kind s).tae.SoundIn s.link s.ladder.active := by
  have hrun := LinkState.not_offline_of_adapting hx
  unfold targetDraining
  split
  · simpa using targetSteady_soundIn (s := publish (becomeSteady s)) (p := p) h.steady hx hparams hp hslot kind
  · rename_i hlt
    have hen := hp.resolve_left (by omega)
    split
    · exact makeCommit_soundIn (s := becomeSteady s) h.steady hrun hen (by rw [becomeSteady_tae]; dsimp only; omega) hslot
        (emergencyLead_inRange hparams)
    · split
      · have hstate := h.state
        rw [hs] at hstate
        obtain ⟨-, -, htimer, hlimit⟩ := hstate
        simpa [retarget] using (h.toDrain (Nat.lt_of_not_le hlt) hen hslot htimer hlimit).inAdapting hx
      · exact h.inAdapting hx

theorem handleTarget_soundIn (kind : RequestKind) :
    (handleTarget p kind s).tae.SoundIn s.link s.ladder.active := by
  unfold handleTarget
  split
  · exact targetSteady_soundIn h hx hparams hp hslot kind
  · exact targetDraining_soundIn h hx hparams hp hslot ‹_› kind
  · unfold targetCommitted
    split
    · rename_i hbelow
      simp only [Bool.and_eq_true, decide_eq_true_eq] at hbelow
      obtain ⟨⟨⟨hlt, -⟩, -⟩, -⟩ := hbelow
      exact makeCommit_soundIn h (LinkState.not_offline_of_adapting hx) (hp.resolve_left (by omega)) (by omega) hslot
        (emergencyLead_inRange hparams)
    · exact h.inAdapting hx

end

theorem takeRequest_soundIn {s : State} (h : s.tae.SoundIn s.link s.ladder.active)
    (hzero : s.link ≠ .offline → s.ladder.active.enabledAt 0 = true) (hp : s.params.Lawful) (r : Request) :
    (takeRequest r s).tae.SoundIn s.link s.ladder.active := by
  unfold takeRequest
  split
  · rename_i htaken
    simp only [Bool.and_eq_true] at htaken
    obtain ⟨⟨hx, -⟩, hslot⟩ := htaken
    split
    · exact h.withPower h.sound.attenuation h.sound.slew s.tae.fallbackOwed _
    · rename_i htarget
      exact handleTarget_soundIn h.sound hx hp
        (targetOf_enabledAt htarget (hzero (LinkState.not_offline_of_adapting hx))) hslot r.kind
  · exact h

/-! ### Attenuation, strobes, DRAIN READY (R130, R131, R136 to R138) -/

theorem attMin_le {p : Params} (h : p.Lawful) : p.attMin ≤ 80 := by
  unfold Params.Lawful at h
  omega

theorem slewed_le {p : Params} (h : p.Lawful) (r : PowerRequest) {a : Nat} (ha : a ≤ 80) : slewed p r a ≤ 80 := by
  unfold Params.Lawful at h
  unfold slewed
  split
  · cases r <;> dsimp only <;> omega
  · exact ha

theorem setAttenuation_soundIn {s : State} (h : s.tae.SoundIn s.link s.ladder.active) {a : Nat} (ha : a ≤ 80) :
    (setAttenuation a s).tae.SoundIn s.link s.ladder.active :=
  h.withPower ha h.sound.slew s.tae.fallbackOwed s.tae.counters

theorem takePower_soundIn {s : State} (h : s.tae.SoundIn s.link s.ladder.active) (hp : s.params.Lawful)
    (p : PowerRequest) : (takePower p s).tae.SoundIn s.link s.ladder.active := by
  unfold takePower
  split
  · exact setAttenuation_soundIn h (attMin_le hp)
  · exact h

theorem slewInterval_le {p : Params} (h : p.Lawful) : slewInterval p ≤ 128 := by
  unfold Params.Lawful at h
  have hindex : p.slewIndex ≤ 7 := by omega
  exact Nat.pow_le_pow_right (by decide) hindex

theorem slewStrobe_soundIn {s : State} (h : s.tae.SoundIn s.link s.ladder.active) (hp : s.params.Lawful) :
    (slewStrobe s).tae.SoundIn s.link s.ladder.active := by
  unfold slewStrobe
  split
  · exact h.withPower (slewed_le hp _ h.sound.attenuation) (Nat.zero_le _) s.tae.fallbackOwed s.tae.counters
  · rename_i hslew
    have := slewInterval_le hp
    simp only [slewPoint, decide_eq_true_eq] at hslew
    exact h.withPower h.sound.attenuation (by omega) s.tae.fallbackOwed s.tae.counters

/-- A drain in progress says that the link adapts, toward which entry, and that *n*_last is set. -/
theorem Tae.SoundIn.draining {x : LinkState} {l : Ladder} {t : Tae} (h : t.SoundIn x l) {d timer limit : Nat}
    (hs : t.state = .draining d timer limit) :
    x.adapting = true ∧ d < t.c ∧ l.enabledAt d = true ∧ limit ≤ 1000 ∧ t.lastSlot.isSome = true := by
  have hstate := h.sound.state
  rw [hs] at hstate
  obtain ⟨hd, hen, -, hlimit⟩ := hstate
  refine ⟨?_, hd, hen, hlimit, h.sound.slot (.inr (by simp [hs]))⟩
  by_contra hx
  simpa [hs, TaeState.drain?] using h.noDrain (by simpa using hx)

theorem drainStrobe_soundIn {s : State} (h : s.tae.SoundIn s.link s.ladder.active) (hp : s.params.Lawful) :
    (drainStrobe s).tae.SoundIn s.link s.ladder.active := by
  unfold drainStrobe
  split
  · rename_i d timer limit hs
    obtain ⟨hx, hd, hen, hlimit, hslot⟩ := h.draining hs
    split
    · have hcounted := h.withPower h.sound.attenuation h.sound.slew s.tae.fallbackOwed
        { s.tae.counters with drainTimeouts := s.tae.counters.drainTimeouts + 1 }
      exact makeCommit_soundIn
        (s := becomeSteady (raise .drainTimeout (s.withTae { s.tae with
          counters := { s.tae.counters with drainTimeouts := s.tae.counters.drainTimeouts + 1 } })))
        hcounted.sound.steady (LinkState.not_offline_of_adapting hx) hen (Nat.ne_of_lt hd) hslot (commitLead_inRange hp)
    · exact (h.sound.toDrain (timer := timer + 1) hd hen hslot (by omega) hlimit).inAdapting hx
  · exact h

theorem taeStrobe_soundIn {s : State} (h : s.tae.SoundIn s.link s.ladder.active) (hp : s.params.Lawful) :
    (taeStrobe s).tae.SoundIn s.link s.ladder.active := by
  simpa [taeStrobe] using
    slewStrobe_soundIn (s := drainStrobe s) (by simpa using drainStrobe_soundIn h hp) (by simpa using hp)

theorem handleDrainReady_soundIn {s : State} (h : s.tae.SoundIn s.link s.ladder.active) (hp : s.params.Lawful)
    (p : BitVec 4) : (handleDrainReady p s).tae.SoundIn s.link s.ladder.active := by
  unfold handleDrainReady
  split
  · rename_i htoward
    unfold drainsToward at htoward
    split at htoward
    · rename_i hs
      obtain ⟨hx, hd, hen, -, hslot⟩ := h.draining hs
      have hprofile := of_decide_eq_true htoward
      rw [← hprofile] at hd hen
      have hcommit := recordCommit_soundIn (s := becomeSteady s) (p := p.toNat) (confirmed := true) (emergency := false)
        h.sound.steady (LinkState.not_offline_of_adapting hx) hen (Nat.ne_of_lt hd) hslot (commitLead_inRange hp)
      simpa [answerAccepted] using hcommit
    · cases htoward
  · simpa [answerLate] using h.withPower h.sound.attenuation h.sound.slew s.tae.fallbackOwed
      { s.tae.counters with lateAnswers := s.tae.counters.lateAnswers + 1 }

/-- The effects of a parameter write on the attenuation stay in its range (R136). -/
theorem attenuationAfter_le {p : Params} (h : p.Lawful) (which : ParamId) {a : Nat} (ha : a ≤ 80) :
    attenuationAfter which p a ≤ 80 := by
  unfold Params.Lawful at h
  unfold attenuationAfter
  (repeat' split) <;> omega

end Sys2Proof.Machine
end

section
/-! SUPPORT. The RAE's own operations (chapter 6) keep its laws: one lemma per operation, in the order of Receive.lean. -/

namespace Sys2Proof.Machine

/-! ### Changes of the RAE's fields -/

/-- A decision sets the request, the power request, POWER_DEFERRED and the upshift dwell count. -/
theorem Rae.SoundIn.withDecision {x : LinkState} {l : Ladder} {r : Rae} (h : r.SoundIn x l) {q : Request} {n : Nat}
    (hq : q.profile ≤ 11) (hn : n ≤ 65535) (power : PowerRequest) (deferred : Bool) :
    Rae.SoundIn x l { r with request := q, power := power, deferred := deferred, dwell := n } := by
  obtain ⟨hprofile, hcommit, hrest, he, -, hk, -, hrange⟩ := h
  exact ⟨hprofile, hcommit, hrest, he, hq, hk, hn, hrange⟩

/-- A pending commit is replaced or discarded. -/
theorem Rae.SoundIn.withCommit {x : LinkState} {l : Ladder} {r : Rae} (h : r.SoundIn x l) (hx : x ≠ .offline)
    {k : Option Commit} (hk : ∀ c ∈ k, c.profile ≠ r.e ∧ l.enabledAt c.profile = true) :
    Rae.SoundIn x l { r with commit := k } := by
  obtain ⟨hprofile, -, -, he, hq, -, hrange⟩ := h
  exact ⟨hprofile, hk, fun e => absurd e hx, he, hq, fun c hc => Ladder.enabledAt_le (hk c hc).2, hrange⟩

/-- *e* becomes an enabled entry, and with it no commit is pending and the follow counter starts again. -/
theorem Rae.SoundIn.settled {x : LinkState} {l : Ladder} {r : Rae} (h : r.SoundIn x l) {p n m : Nat}
    (hp : l.enabledAt p = true) (hn : n ≤ 65535) (hm : m ≤ 65535) (k : RaeCounters) :
    Rae.SoundIn x l { r with
      e := p, timeAtProfile := n, dwell := m, commit := none, follow := 0, candidate := none,
      request := r.request.settle p, counters := k } := by
  obtain ⟨-, -, -, -, hq, -, -, -, hstall, -, -, hpredicted⟩ := h
  have hle := Ladder.enabledAt_le hp
  exact ⟨fun _ => hp, by simp, fun _ => rfl, hle, Request.settle_le hq hle, by simp, hm, hn, hstall, Nat.zero_le _,
    by simp, hpredicted⟩

/-- The follow counter, its candidate, the last header and the counts. -/
theorem Rae.SoundIn.withFollow {x : LinkState} {l : Ladder} {r : Rae} (h : r.SoundIn x l) {n : Nat} (hn : n ≤ 15)
    {p : Option Nat} (hp : ∀ q ∈ p, q ≤ 11) (last : Option Superframe) (k : RaeCounters) :
    Rae.SoundIn x l { r with follow := n, candidate := p, lastHeader := last, counters := k } := by
  obtain ⟨hprofile, hcommit, hrest, he, hq, hk, hdwell, htime, hstall, -, -, hpredicted⟩ := h
  exact ⟨hprofile, hcommit, hrest, he, hq, hk, hdwell, htime, hstall, hn, hp, hpredicted⟩

theorem Rae.SoundIn.withCounters {x : LinkState} {l : Ladder} {r : Rae} (h : r.SoundIn x l) (k : RaeCounters) :
    Rae.SoundIn x l { r with counters := k } := ⟨h.profile, h.commit, h.atRest, h.range⟩

theorem Rae.SoundIn.withOverflow {x : LinkState} {l : Ladder} {r : Rae} (h : r.SoundIn x l) (noted : Bool) :
    Rae.SoundIn x l { r with overflowNoted := noted } := ⟨h.profile, h.commit, h.atRest, h.range⟩

theorem Rae.SoundIn.withStall {x : LinkState} {l : Ladder} {r : Rae} (h : r.SoundIn x l) {n : Nat} (hn : n ≤ 4096)
    (reported : Bool) : Rae.SoundIn x l { r with stall := n, stallReported := reported } := by
  obtain ⟨hprofile, hcommit, hrest, he, hq, hk, hdwell, htime, -, hrange⟩ := h
  exact ⟨hprofile, hcommit, hrest, he, hq, hk, hdwell, htime, hn, hrange⟩

/-! ### The evaluation (R92 to R102) -/

theorem predict_le (horizon : Nat) (x : Estimate) : predict horizon x ≤ 500 := by
  have h := clampInt_mem 0 Config.snrMax
    (x.snr + (if x.slope < 0 then x.slope * horizon / 10 else 0)) (by decide)
  unfold predict
  have hmax : (Config.snrMax : Int) = 500 := rfl
  omega

theorem highestBelow_getD_le (l : Ladder) (p : Nat) (test : Entry → Bool) : (l.highestBelow p test).getD 0 ≤ 11 := by
  cases h : l.highestBelow p test with
  | none => exact Nat.zero_le _
  | some k => exact Nat.le_of_lt_succ (find?_reverse_range_eq_some_iff.1 h).2.1

theorem upshiftEntry_le {s : State} {v k : Nat} (h : upshiftEntry s v = some k) : k ≤ 11 := by
  unfold upshiftEntry at h
  split at h
  · rename_i hk
    split at h
    · cases h
      exact Ladder.enabledAt_le (Ladder.nextAbove_eq_some_iff.1 hk).2.1
    · cases h
  · cases h

/-- What the decision steps settle lies in the ranges of the RAE's table. -/
def Decision.InRange (d : Decision) : Prop := (∀ q ∈ d.candidate, q.profile ≤ 11) ∧ d.dwell ≤ 65535

theorem decideEmergency_inRange (r : Rae) : (decideEmergency r).InRange := by
  refine ⟨fun q hq => ?_, Nat.zero_le _⟩
  simp only [decideEmergency, Option.mem_def] at hq
  split at hq
  · cases hq
    exact Nat.zero_le _
  · cases hq

theorem decideDownshift_inRange (s : State) (x : Estimate) (v : Nat) : (decideDownshift s x v).InRange := by
  unfold decideDownshift
  split
  · exact ⟨by simp, Nat.zero_le _⟩
  · exact ⟨by simp only [Option.mem_def, Option.some.injEq, forall_eq']; exact highestBelow_getD_le .., Nat.zero_le _⟩

theorem decideUpshift_inRange (s : State) (x : Estimate) (v : Nat) : (decideUpshift s x v).InRange := by
  unfold decideUpshift
  split
  · rename_i k hk
    refine ⟨fun q hq => ?_, succSat_le ..⟩
    simp only [Option.mem_def] at hq
    split at hq
    · cases hq
      exact upshiftEntry_le hk
    · cases hq
  · exact ⟨by simp, Nat.zero_le _⟩

theorem decideAdaptive_inRange (s : State) : (decideAdaptive s).InRange := by
  unfold decideAdaptive
  split
  · exact decideEmergency_inRange _
  · split
    · exact decideEmergency_inRange _
    · split
      · exact decideDownshift_inRange ..
      · exact decideUpshift_inRange ..

theorem mergeRequest_le {e : Nat} {standing : Request} {candidate : Option Request} (he : e ≤ 11)
    (hs : standing.profile ≤ 11) (hc : ∀ q ∈ candidate, q.profile ≤ 11) :
    (mergeRequest e standing candidate).profile ≤ 11 := by
  unfold mergeRequest
  split
  · split
    · exact hs
    · exact he
  · split
    · exact hs
    · exact hc _ rfl

theorem askFor_le {p e : Nat} (hp : p ≤ 11) (he : e ≤ 11) : (askFor p e).profile ≤ 11 := by
  unfold askFor
  split
  · exact he
  · exact hp

theorem decideRequest_soundIn {s : State} {l : Ladder} (h : s.rae.SoundIn s.link l)
    (hpin : ∀ p ∈ s.link.pin?, p ≤ 11) : (decideRequest s).SoundIn s.link l := by
  obtain ⟨he, hq, -⟩ := h.range
  unfold decideRequest
  split
  · exact h
  · exact h.withDecision (askFor_le (Nat.zero_le _) he) (Nat.zero_le _) _ _
  · exact h.withDecision (askFor_le (Nat.zero_le _) he) (Nat.zero_le _) _ _
  · rename_i p hl
    exact h.withDecision (askFor_le (hpin p (by simp [hl, LinkState.pin?])) he) (Nat.zero_le _) _ _
  · split
    · obtain ⟨hcandidate, hdwell⟩ := decideAdaptive_inRange s
      exact h.withDecision (mergeRequest_le he hq hcandidate) hdwell _ _
    · exact h.withDecision he (Nat.zero_le _) _ _

theorem evaluationBegins_soundIn {s : State} {l : Ladder} (h : s.rae.SoundIn s.link l) :
    (evaluationBegins s).rae.SoundIn s.link l := by
  obtain ⟨hprofile, hcommit, hrest, he, hq, hk, hdwell, -, hstall, hfollow, hcandidate, -⟩ := h
  refine ⟨hprofile, hcommit, hrest, he, hq, hk, ?_, succSat_le .., hstall, hfollow, hcandidate, fun v hv => ?_⟩
  · rw [evaluationBegins_dwell]
    split
    · exact Nat.zero_le _
    · exact hdwell
  · obtain ⟨x, -, rfl⟩ := Option.map_eq_some_iff.1 (Option.mem_def.1 hv)
    exact predict_le _ x

theorem stallStep_soundIn {s : State} {l : Ladder} (h : s.rae.SoundIn s.link l) :
    (stallStep s).rae.SoundIn s.link l := by
  unfold stallStep
  split
  · simpa using h.withStall (n := succSat Config.stallMax s.rae.stall) (succSat_le ..) _
  · exact h.withStall (Nat.zero_le _) _

theorem raeEvaluate_soundIn {s : State} {l : Ladder} (h : s.rae.SoundIn s.link l) (hpin : ∀ p ∈ s.link.pin?, p ≤ 11) :
    (raeEvaluate s).rae.SoundIn s.link l := by
  have hbegins : (evaluationBegins s).rae.SoundIn (evaluationBegins s).link l := by
    simpa using evaluationBegins_soundIn h
  have hdecides : (evaluationDecides s).rae.SoundIn (evaluationDecides s).link l := by
    simpa using decideRequest_soundIn hbegins (by simpa using hpin)
  unfold raeEvaluate
  split
  · exact h
  · simpa using (stallStep_soundIn hdecides).withOverflow false

theorem raeOverflow_soundIn {s : State} {l : Ladder} (h : s.rae.SoundIn s.link l) :
    (raeOverflow s).rae.SoundIn s.link l := by
  unfold raeOverflow
  split
  · exact h
  · exact h.withOverflow true

/-! ### Commits seen and headers (R107, R108, R110 to R113) -/

theorem seeCommit_soundIn {s : State} (h : s.rae.SoundIn s.link s.ladder.active) (hx : s.link ≠ .offline)
    (k : Option Commit) : (seeCommit k s).rae.SoundIn s.link s.ladder.active := by
  unfold seeCommit
  split
  · exact h
  · rename_i k
    split
    · exact h.withCounters _
    · rename_i hen
      have hen : s.ladder.active.enabledAt k.profile = true := by simpa using hen
      split
      · exact h
      · split
        · split
          · exact h
          · simpa using h.withCommit (k := none) hx (by simp)
        · rename_i hne
          simpa using h.withCommit (k := some k) hx (by simpa using ⟨hne, hen⟩)

theorem completeCommit_soundIn {s : State} (h : s.rae.SoundIn s.link s.ladder.active) {q : Nat}
    (hq : s.ladder.active.enabledAt q = true) : (completeCommit q s).rae.SoundIn s.link s.ladder.active := by
  rw [completeCommit_rae]
  exact h.settled hq (Nat.zero_le _) (Nat.zero_le _) _

/-- A header that follows or counts toward a follow names an enabled entry (R112). -/
theorem followCounted_eq_some {s : State} {h : Header} {n : Nat} (hn : followCounted s h = some n) :
    s.ladder.active.enabledAt h.profile = true ∧ n ≤ s.rae.follow + 1 := by
  unfold followCounted at hn
  split at hn
  · rename_i hen
    simp only [Bool.and_eq_true] at hen
    refine ⟨hen.1, ?_⟩
    cases hn
    split <;> omega
  · cases hn

theorem countHeader_of_counted {s : State} {x : Header} {n : Nat} (hn : followCounted s x = some n) :
    countHeader x s =
      s.withRae { s.rae with lastHeader := some x.number, follow := n, candidate := some x.profile } := by
  simp only [countHeader, hn]

/-- Counting a header that does not complete the follow count. -/
theorem countHeader_soundIn {s : State} (h : s.rae.SoundIn s.link s.ladder.active) {x : Header}
    (hcount : ∀ n, followCounted s x = some n → n ≤ 15) :
    (countHeader x s).rae.SoundIn s.link s.ladder.active := by
  obtain ⟨-, -, -, -, -, -, hfollow, hcandidate, -⟩ := h.range
  cases hn : followCounted s x with
  | some n =>
    rw [countHeader_of_counted hn]
    refine h.withFollow (hcount n hn) (fun q hq => ?_) _ s.rae.counters
    cases hq
    exact Ladder.enabledAt_le (followCounted_eq_some hn).1
  | none =>
    simp only [countHeader, hn]
    split
    · exact h.withFollow (Nat.zero_le _) (by simp) _ s.rae.counters
    · exact h.withFollow hfollow hcandidate _ _

/-- A header that completes the follow count sets back the counter that it has moved. -/
theorem followHeader_soundIn {s : State} (h : s.rae.SoundIn s.link s.ladder.active) {x : Header} {n : Nat}
    (hn : followCounted s x = some n) (m : Superframe) :
    (followHeader x.profile m (countHeader x s)).rae.SoundIn s.link s.ladder.active := by
  obtain ⟨-, -, -, hdwell, htime, -, hfollow, hcandidate, -⟩ := h.range
  have hen := (followCounted_eq_some hn).1
  have hlast := h.withFollow hfollow hcandidate (some x.number) s.rae.counters
  rw [countHeader_of_counted hn]
  unfold followHeader
  by_cases he : x.profile = s.rae.e
  · simpa [he] using hlast.settled hen htime hdwell _
  · simpa [he, Rae.arrivedAt] using hlast.settled hen (Nat.zero_le _) (Nat.zero_le _) _

theorem takeHeader_soundIn {s : State} (h : s.rae.SoundIn s.link s.ladder.active) (hp : s.params.Lawful) (x : Header) :
    (takeHeader x s).rae.SoundIn s.link s.ladder.active := by
  unfold takeHeader
  split
  · rename_i hc
    unfold completes at hc
    split at hc
    · rename_i k hk
      simp only [Bool.and_eq_true, decide_eq_true_eq] at hc
      refine completeCommit_soundIn h ?_
      rw [hc.2]
      exact (h.commit k hk).2
    · cases hc
  · rename_i hc
    split
    · rename_i hnew
      cases hn : followCounted s x with
      | none =>
        have hfollows : headerFollows s x = false := by simp [headerFollows, hn]
        simpa [hfollows] using countHeader_soundIn h (x := x) (by simp [hn])
      | some n =>
        have hfollows : headerFollows s x = decide (s.params.followCount ≤ n) := by
          simp [headerFollows, hc, hnew, hn]
        unfold Params.Lawful at hp
        split
        · exact followHeader_soundIn h hn _
        · rename_i hlt
          simp only [hfollows, decide_eq_true_eq] at hlt
          exact countHeader_soundIn h (x := x) fun m hm => by rw [hn] at hm; cases hm; omega
    · exact h

theorem raeHeader_soundIn {s : State} (h : s.rae.SoundIn s.link s.ladder.active) (hp : s.params.Lawful) (l : Branch)
    (x : Header) : (raeHeader l x s).rae.SoundIn s.link s.ladder.active := by
  unfold raeHeader
  split
  · exact takeHeader_soundIn h hp x
  · exact h

/-! ### START and STOP (R114) -/

theorem Rae.SoundIn.started {l : Ladder} (x : LinkState) (hzero : l.enabledAt 0 = true) (k : RaeCounters)
    (hx : x ≠ .offline) : Rae.SoundIn x l { Rae.reset with counters := k } :=
  ⟨fun _ => hzero, by simp [Rae.reset], fun e => absurd e hx, show Rae.reset.InRange by decide⟩

/-- After either reset the RAE is at rest. -/
theorem Rae.SoundIn.reset (l : Ladder) : Rae.reset.SoundIn .offline l :=
  ⟨fun e => absurd rfl e, by simp [Rae.reset], fun _ => rfl, by decide⟩

/-- STOP discards what is pending and keeps *e*. -/
theorem raeStop_soundIn {x : LinkState} {s : State} {l : Ladder} (h : s.rae.SoundIn x l) :
    (raeStop s).rae.SoundIn .offline l := by
  obtain ⟨he, -, -, hdwell, htime, -, hfollow, hcandidate, -⟩ := h.range
  exact ⟨fun e => absurd rfl e, by simp [raeStop], fun _ => rfl, he, he, by simp [raeStop], hdwell, htime,
    Nat.zero_le _, hfollow, hcandidate, by simp [raeStop]⟩

end Sys2Proof.Machine
end

section
/-! SUPPORT. The laws that tie the engines together, of the whole state (`State.EnginesTogether`), and each operation that
a link change, a word, a report or a command is made of. -/

namespace Sys2Proof.Machine

/-! ### The laws of a state -/

/-- Ladder, parameters and channel are lawful, and both engines are sound on the active ladder under the link state. -/
structure State.EnginesSound (s : State) : Prop where
  ladder : s.ladder.Lawful
  params : s.params.Lawful
  peer : s.peer.Lawful
  rae : s.rae.SoundIn s.link s.ladder.active
  tae : s.tae.SoundIn s.link s.ladder.active

/-- The blocks are sound, and the link state fits them. -/
structure State.EnginesTogether (s : State) : Prop where
  sound : s.EnginesSound
  link : s.LinkLawful

/-- Outside OFFLINE the active ladder is not empty, for *e* is on it. -/
theorem State.EnginesSound.count {s : State} (h : s.EnginesSound) (hx : s.link ≠ .offline) :
    s.ladder.active.count ≠ 0 := by
  have he := h.rae.profile hx
  simp only [Ladder.enabledAt, Bool.and_eq_true, decide_eq_true_eq] at he
  omega

theorem State.EnginesSound.zero {s : State} (h : s.EnginesSound) (hx : s.link ≠ .offline) :
    s.ladder.active.enabledAt 0 = true := h.ladder.enabledAt_zero (h.count hx)

theorem State.EnginesTogether.zero {s : State} (h : s.EnginesTogether) (hx : s.link ≠ .offline) :
    s.ladder.active.enabledAt 0 = true := h.sound.zero hx

/-- The laws in the terms of Safety.lean. -/
theorem enginesTogether_iff (s : State) :
    s.EnginesTogether ↔ s.EnginesLawful ∧ s.rae.InRange ∧ s.tae.InRange := by
  constructor
  · rintro ⟨h, hlink⟩
    obtain ⟨hrae, hraeRange⟩ := (raeSoundIn_iff s).1 h.rae
    obtain ⟨htae, htaeRange⟩ := (taeSoundIn_iff h.zero).1 h.tae
    exact ⟨⟨h.ladder, h.params, h.peer, hlink, hrae, htae⟩, hraeRange, htaeRange⟩
  · rintro ⟨⟨hladder, hparams, hpeer, hlink, hrae, htae⟩, hraeRange, htaeRange⟩
    obtain ⟨-, -, -, hcount⟩ := id hlink
    exact ⟨⟨hladder, hparams, hpeer, (raeSoundIn_iff s).2 ⟨hrae, hraeRange⟩,
      (taeSoundIn_iff fun hx => hladder.enabledAt_zero (hcount hx)).2 ⟨htae, htaeRange⟩⟩, hlink⟩

theorem LinkState.of_holding {x : LinkState} (h : x.holding = true) :
    x ≠ .offline ∧ x.adapting = false ∧ x.pin? = none := by
  cases x <;> simp_all [LinkState.holding, LinkState.adapting, LinkState.pin?]

/-- In ACQUIRE and FIXED nothing more is asked of the link. -/
theorem State.EnginesSound.inHolding {s : State} (h : s.EnginesSound) (hx : s.link.holding = true) :
    s.EnginesTogether := by
  obtain ⟨hrun, hadapting, hpin⟩ := LinkState.of_holding hx
  exact ⟨h, by simp [hadapting], by simp [hpin], fun e => absurd e hrun, h.count⟩

/-- In adaptive operation the channel is UP with equal digests, and the pin profile is enabled. -/
theorem State.EnginesSound.inAdapting {s : State} (h : s.EnginesSound) (hx : s.link.adapting = true)
    (hup : s.peer.state = .up) (hdigest : s.peer.fields.digest = some s.ladder.digest)
    (hpin : ∀ p ∈ s.link.pin?, s.ladder.active.enabledAt p = true) : s.EnginesTogether :=
  ⟨h, fun _ => ⟨hup, hdigest⟩, hpin, fun e => absurd e (LinkState.not_offline_of_adapting hx), h.count⟩

/-- In OFFLINE the channel is DOWN. -/
theorem State.EnginesSound.inOffline {s : State} (h : s.EnginesSound) (hx : s.link = .offline)
    (hdown : s.peer.state = .down) : s.EnginesTogether :=
  ⟨h, by simp [hx, LinkState.adapting], by simp [hx, LinkState.pin?], fun _ => hdown, fun e => absurd hx e⟩

/-! ### Changes of single blocks -/

/-- What an operation leaves alone when it touches neither ladder, table, channel nor link state. -/
def KeepsFrame (s t : State) : Prop :=
  t.ladder = s.ladder ∧ t.params = s.params ∧ t.peer = s.peer ∧ t.link = s.link

namespace State.EnginesSound

variable {s t : State}

theorem congr (h : s.EnginesSound) (hframe : KeepsFrame s t) (hengines : t.rae = s.rae ∧ t.tae = s.tae) :
    t.EnginesSound := by
  obtain ⟨hladder, hparams, hpeer, hlink⟩ := hframe
  obtain ⟨hrae, htae⟩ := hengines
  exact ⟨hladder ▸ h.ladder, hparams ▸ h.params, hpeer ▸ h.peer, by rw [hrae, hlink, hladder]; exact h.rae,
    by rw [htae, hlink, hladder]; exact h.tae⟩

/-- A change of the link state into one that adapts, or with no drain in progress, keeps both engines sound. -/
theorem withLink (h : s.EnginesSound) {new : LinkState} (hx : s.link ≠ .offline) (hnew : new ≠ .offline)
    (hdrain : new.adapting = true ∨ s.tae.state.drain? = none) : (s.withLink new).EnginesSound :=
  ⟨h.ladder, h.params, h.peer, h.rae.inRunning hx hnew, hdrain.elim h.tae.sound.inAdapting (h.tae.sound.inRunning hnew)⟩

theorem after_changeLink_id (h : s.EnginesSound) {new : LinkState} (hx : s.link ≠ .offline) (hnew : new ≠ .offline)
    (hdrain : new.adapting = true ∨ s.tae.state.drain? = none) : (changeLink new id s).EnginesSound :=
  (h.withLink hx hnew hdrain).congr (by simp [KeepsFrame, changeLink]) (by simp [changeLink])

/-- The fallback of a link change leaves no drain. -/
theorem after_changeLink_fallback (h : s.EnginesSound) {new : LinkState} (hx : s.link ≠ .offline)
    (hnew : new ≠ .offline) : (changeLink new fallback s).EnginesSound := by
  have htae : (changeLink new fallback s).tae = (fallback (s.withLink new)).tae := by simp [changeLink]
  refine ⟨by simpa using h.ladder, by simpa using h.params, by simpa using h.peer, ?_, ?_⟩
  · simpa [changeLink] using h.rae.inRunning hx hnew
  · rw [htae]
    simpa [changeLink] using fallback_soundIn (s := s.withLink new) h.tae.sound hnew (h.zero hx) h.params

end State.EnginesSound

namespace State.EnginesTogether

variable {s t : State}

theorem congr (h : s.EnginesTogether) (hframe : KeepsFrame s t) (hengines : t.rae = s.rae ∧ t.tae = s.tae) :
    t.EnginesTogether := by
  refine ⟨h.sound.congr hframe hengines, ?_⟩
  obtain ⟨hladder, -, hpeer, hlink⟩ := hframe
  have hlaw := h.link
  unfold State.LinkLawful at hlaw ⊢
  rwa [hladder, hpeer, hlink]

theorem onRae (h : s.EnginesTogether) (hframe : KeepsFrame s t) (htae : t.tae = s.tae)
    (hrae : t.rae.SoundIn s.link s.ladder.active) : t.EnginesTogether := by
  have hset : (s.withRae t.rae).EnginesTogether :=
    ⟨⟨h.sound.ladder, h.sound.params, h.sound.peer, hrae, h.sound.tae⟩, h.link⟩
  exact hset.congr hframe ⟨rfl, htae⟩

theorem onTae (h : s.EnginesTogether) (hframe : KeepsFrame s t) (hrae : t.rae = s.rae)
    (htae : t.tae.SoundIn s.link s.ladder.active) : t.EnginesTogether := by
  have hset : (s.withTae t.tae).EnginesTogether :=
    ⟨⟨h.sound.ladder, h.sound.params, h.sound.peer, h.sound.rae, htae⟩, h.link⟩
  exact hset.congr hframe ⟨hrae, rfl⟩

/-- A change of the channel that keeps its state and the peer fields. -/
theorem withPeer (h : s.EnginesTogether) {k : PeerChannel} (hk : k.Lawful) (hstate : k.state = s.peer.state)
    (hfields : k.fields = s.peer.fields) : (s.withPeer k).EnginesTogether := by
  refine ⟨⟨h.sound.ladder, h.sound.params, hk, h.sound.rae, h.sound.tae⟩, ?_⟩
  have hlaw := h.link
  unfold State.LinkLawful at hlaw ⊢
  simpa [hstate, hfields] using hlaw

/-- A change of the ladder's edit copy. -/
theorem withEdit (h : s.EnginesTogether) {e : Ladder} (he : e.Lawful) :
    (s.withLadder { s.ladder with edit := e }).EnginesTogether :=
  ⟨⟨ProfileLadder.withEdit_lawful h.sound.ladder he, h.sound.params, h.sound.peer, h.sound.rae, h.sound.tae⟩, h.link⟩

theorem ite (h : s.EnginesTogether) (ht : t.EnginesTogether) (b : Prop) [Decidable b] :
    (if b then t else s).EnginesTogether := by
  split
  · exact ht
  · exact h

theorem pin (h : s.EnginesTogether) : ∀ p ∈ s.link.pin?, s.ladder.active.enabledAt p = true := by
  obtain ⟨-, hpin, -⟩ := h.link
  exact hpin

theorem adapting (h : s.EnginesTogether) (hx : s.link.adapting = true) :
    s.peer.state = .up ∧ s.peer.fields.digest = some s.ladder.digest := by
  obtain ⟨hadapting, -⟩ := h.link
  exact hadapting hx

theorem offline (h : s.EnginesTogether) (hx : s.link = .offline) : s.peer.state = .down := by
  obtain ⟨-, -, hoffline, -⟩ := h.link
  exact hoffline hx

/-! ### The Control Link -/

theorem after_respond (h : s.EnginesTogether) (r : Response) : (respond r s).EnginesTogether :=
  h.congr (by simp [KeepsFrame]) (by simp)

theorem of_turn (h : s.EnginesTogether) {c : Instr} (ht : turn c s = some t) : t.EnginesTogether := by
  obtain rfl | ⟨f, rest, -, rfl⟩ := turn_eq_some ht
  · exact h
  · exact h.congr (by simp [KeepsFrame]) (by simp)

/-- A command keeps the laws when it does so from the state in which its turn finds it. -/
theorem after_onTurn (h : s.EnginesTogether) (c : Instr) {act : State → State}
    (hact : ∀ u : State, u.EnginesTogether → (act u).EnginesTogether) : (onTurn c act s).EnginesTogether := by
  cases ht : turn c s with
  | none => rw [onTurn_of_none ht]; exact h
  | some u => rw [onTurn_of_some ht]; exact hact u (h.of_turn ht)

end State.EnginesTogether

/-! ### Changes of link state (R155) -/

/-- The channel as it enters DOWN replaces the channel before (R76). -/
theorem enterDown_withPeer (s : State) (k : PeerChannel) :
    enterDown (s.withPeer k) = setAttenuation s.params.attMin
      (supervisorDown (raiseIf (decide (k.state = .up)) .peerDown (s.withPeer k.entersDown))) := rfl

namespace State.EnginesSound

variable {s : State}

/-- The change into LADDER_MISMATCH, from ACQUIRE. -/
theorem after_enterMismatch_id (h : s.EnginesSound) (hx : s.link ≠ .offline) (hdrain : s.tae.state.drain? = none) :
    (enterMismatch id s).EnginesTogether :=
  ((h.after_changeLink_id hx (new := .acquire .ladderMismatch) (by simp) (.inr hdrain)).inHolding rfl).congr
    (by simp [enterMismatch, KeepsFrame]) (by simp [enterMismatch])

/-- The end of adaptive operation. -/
theorem after_changeLink_fallback_together (h : s.EnginesSound) {new : LinkState} (hx : s.link ≠ .offline)
    (hnew : new.holding = true) : (changeLink new fallback s).EnginesTogether :=
  (h.after_changeLink_fallback hx (LinkState.of_holding hnew).1).inHolding (by simpa [changeLink] using hnew)

theorem after_enterMismatch_fallback (h : s.EnginesSound) (hx : s.link ≠ .offline) :
    (enterMismatch fallback s).EnginesTogether :=
  (h.after_changeLink_fallback_together hx (new := .acquire .ladderMismatch) rfl).congr
    (by simp [enterMismatch, KeepsFrame]) (by simp [enterMismatch])

/-- The comparison of the digests in ACQUIRE with the channel UP (R160, R162). -/
theorem after_compareInAcquire (h : s.EnginesSound) {reason : WaitReason} (hx : s.link = .acquire reason)
    (hup : s.peer.state = .up) : (compareInAcquire reason s).EnginesTogether := by
  have hrun : s.link ≠ .offline := by simp [hx]
  unfold compareInAcquire
  split
  · rename_i hdigest
    exact (h.after_changeLink_id hrun (by simp) (.inl rfl)).inAdapting rfl (by simpa using hup)
      (by simpa [digestsEqual] using hdigest) (by simp [LinkState.pin?])
  · split
    · exact h.inHolding (by simp [hx, LinkState.holding])
    · exact h.after_enterMismatch_id hrun (h.tae.noDrain (by simp [hx, LinkState.adapting]))

/-- A word that the channel has just taken may break the ties of adaptive operation; the Link Supervisor mends them
before the word goes on (R160). -/
theorem after_supervisorHandOff (h : s.EnginesSound) (hrun : s.link ≠ .offline)
    (hup : s.link.adapting = true → s.peer.state = .up)
    (hpin : ∀ p ∈ s.link.pin?, s.ladder.active.enabledAt p = true) : (supervisorHandOff s).EnginesTogether := by
  have hequal (hx : s.link.adapting = true) (hdigest : digestsEqual s = true) : s.EnginesTogether :=
    h.inAdapting hx (hup hx) (by simpa [digestsEqual] using hdigest) hpin
  unfold supervisorHandOff
  split
  · split
    · exact h.after_compareInAcquire ‹_› ‹_›
    · rename_i hx
      split
      · exact hequal (by simp [hx, LinkState.adapting]) ‹_›
      · exact h.after_enterMismatch_fallback hrun
    · rename_i hx
      split
      · exact hequal (by simp [hx, LinkState.adapting]) ‹_›
      · exact h.after_enterMismatch_fallback hrun
    · exact absurd ‹_› hrun
    · rename_i hx
      exact h.inHolding (by simp [hx, LinkState.holding])
  · rename_i hstate
    refine h.inHolding ?_
    cases hx : s.link with
    | offline => exact absurd hx hrun
    | adaptive => exact absurd (hup (by simp [hx, LinkState.adapting])) hstate
    | pinned p => exact absurd (hup (by simp [hx, LinkState.adapting])) hstate
    | _ => rfl

/-- With the channel DOWN the DOWN notice mends the ties of adaptive operation (R161). -/
theorem after_supervisorDown (h : s.EnginesSound) (hdown : s.peer.state = .down) :
    (supervisorDown s).EnginesTogether := by
  unfold supervisorDown
  split
  · rename_i hx
    exact h.after_changeLink_fallback_together (by simp [hx]) rfl
  · rename_i hx
    exact h.after_changeLink_fallback_together (by simp [hx]) rfl
  · rename_i reason hx
    split
    · exact h.inHolding (by simp [hx, LinkState.holding])
    · exact (h.after_changeLink_id (by simp [hx]) (by simp)
        (.inr (h.tae.noDrain (by simp [hx, LinkState.adapting])))).inHolding rfl
  · exact h.inOffline ‹_› hdown
  · rename_i hx
    exact h.inHolding (by simp [hx, LinkState.holding])

/-- Entering DOWN needs of the channel before it only what DOWN keeps: the foreign counter and the ring (R76). -/
theorem after_enterDown (h : s.EnginesSound) {k : PeerChannel} (hforeign : k.foreign ≤ 254)
    (hring : k.ring.length ≤ 16) : (enterDown (s.withPeer k)).EnginesTogether := by
  have hdown : (s.withPeer k.entersDown).EnginesSound :=
    ⟨h.ladder, h.params, PeerChannel.entersDown_lawful hforeign hring, h.rae, h.tae⟩
  have hraised : (raiseIf (decide (k.state = .up)) .peerDown (s.withPeer k.entersDown)).EnginesSound :=
    hdown.congr (by simp [KeepsFrame]) (by simp)
  have hnotified := hraised.after_supervisorDown (by simp [PeerChannel.entersDown])
  rw [enterDown_withPeer]
  exact hnotified.onTae (by simp [KeepsFrame]) (by simp)
    (setAttenuation_soundIn hnotified.sound.tae (attMin_le h.params))

end State.EnginesSound

end Sys2Proof.Machine
end

section
/-! SUPPORT. STOP, block by block: what its change of link state leaves of the channel, the engines and the events (R80,
R114, R134, R157). -/

namespace Sys2Proof.Machine

theorem raise_eq_withControl (e : Event) (s : State) :
    raise e s = s.withControl (s.control.afterRaising e.flag) := by
  rw [← raise_control]
  rfl

theorem raiseIf_eq_withControl (b : Bool) (e : Event) (s : State) :
    raiseIf b e s = s.withControl (s.control.afterRaising (if b then e.flag else 0#21)) := by
  cases b with
  | false => simp [raiseIf]; rfl
  | true => exact raise_eq_withControl e s

/-- In OFFLINE the DOWN notice finds nothing to end (R161). -/
theorem supervisorDown_of_offline {t : State} (hx : t.link = .offline) : supervisorDown t = t := by
  simp [supervisorDown, hx]

/-- The Peer Channel's work at STOP, when the link is OFFLINE already (R80). -/
theorem peerStop_of_offline {t : State} (hx : t.link = .offline) :
    peerStop t = { t with
      peer := if t.peer.state = .down then t.peer else t.peer.entersDown
      tae := { t.tae with
        attenuation := if t.peer.state = .down then t.tae.attenuation else t.params.attMin }
      control := t.control.afterRaising (if t.peer.state = .up then Event.peerDown.flag else 0#21) } := by
  unfold peerStop enterDown
  rw [supervisorDown_of_offline (by simpa using hx), raiseIf_eq_withControl]
  by_cases hs : t.peer.state = .down
  · simp [hs]
  · simp [hs]
    rfl

/-- STOP's change of link state, as one update of the state and the publication after it. -/
theorem stopLink_eq (t : State) :
    stopLink t = publish { t with
      link := .offline
      peer := if t.peer.state = .down then t.peer else t.peer.entersDown
      rae := (raeStop t).rae
      tae := { t.tae with
        c := 0
        state := .steady
        fallbackOwed := false
        attenuation := if t.peer.state = .down then t.tae.attenuation else t.params.attMin }
      control := t.control.afterRaising
        ((if t.peer.state = .up then Event.peerDown.flag else 0#21) ||| Event.stateChanged.flag) } := by
  have hstop := peerStop_of_offline (t := t.withLink .offline) rfl
  have hunfold : stopLink t
      = publish (raise .stateChanged (taeStop (raeStop (peerStop (t.withLink .offline))))) := rfl
  rw [hunfold, hstop, raise_eq_withControl, ← afterRaising_afterRaising]
  rfl

theorem stopLink_peer (t : State) :
    (stopLink t).peer = if t.peer.state = .down then t.peer else t.peer.entersDown := by rw [stopLink_eq]; simp

theorem stopLink_rae (t : State) : (stopLink t).rae = (raeStop t).rae := by rw [stopLink_eq]; simp

theorem stopLink_tae (t : State) :
    (stopLink t).tae = { t.tae with
      c := 0
      state := .steady
      fallbackOwed := false
      attenuation := if t.peer.state = .down then t.tae.attenuation else t.params.attMin } := by rw [stopLink_eq]; simp

theorem stopLink_kept (t : State) :
    (stopLink t).ladder = t.ladder ∧ (stopLink t).link = .offline ∧ (stopLink t).params = t.params := by
  rw [stopLink_eq]; simp

end Sys2Proof.Machine
end

section
/-! PROOFS. Every step keeps the link state, the ladder, the channel and the two engines together: O59. -/

namespace Sys2Proof.Machine

theorem reset_enginesTogether : State.reset.EnginesTogether :=
  (enginesTogether_iff _).2 ⟨reset_enginesLawful, by decide, by decide⟩

/-- No change of link state within a word ends in OFFLINE. -/
theorem supervisorHandOff_not_offline {s : State} (hx : s.link ≠ .offline) :
    (supervisorHandOff s).link ≠ .offline := by
  unfold supervisorHandOff
  split
  · split
    · unfold compareInAcquire
      (repeat' split) <;> simp_all [enterMismatch, changeLink]
    · split <;> simp_all [enterMismatch, changeLink]
    · split <;> simp_all [enterMismatch, changeLink]
    · exact hx
    · exact hx
  · exact hx

/-- A channel that is UP stays UP through an accepted word that is no echo fault (R75). -/
theorem PeerChannel.taken_state_of_up {k : PeerChannel} (hup : k.state = .up) (m : Superframe) (w : OverheadWord) :
    (k.taken m w).state = .up := by
  simp [PeerChannel.taken, PeerChannel.updateState, PeerChannel.accept, hup]

/-- A copy that passes validation is not empty (R14). -/
theorem Ladder.count_of_valid {l : Ladder} (h : l.failure = none) : l.count ≠ 0 := by
  simpa [Ladder.violates] using l.failure_eq_none_iff.1 h 1 0

/-- What the checks of R12 say of a commit that is carried out. -/
theorem commitRefusal_none {s : State} (h : commitRefusal s = none) :
    s.link.adapting = false ∧ (s.link.holding = true → atRest s = true) := by
  unfold commitRefusal at h
  split at h
  · cases h
  · rename_i hadapting
    split at h
    · cases h
    · rename_i hrest
      exact ⟨by simpa using hadapting, fun hx => by simpa [hx] using hrest⟩

theorem softAttenuation_le {p : Params} (h : p.Lawful) : softAttenuation p ≤ 80 := by
  unfold Params.Lawful at h
  unfold softAttenuation
  split <;> omega

namespace State.EnginesTogether

variable {s : State}

/-! ### Words and silence (Peer.lean) -/

theorem foreign_ring (h : s.EnginesTogether) : s.peer.foreign ≤ 254 ∧ s.peer.ring.length ≤ 16 := by
  obtain ⟨-, -, -, -, hforeign, -, -, hring⟩ := h.sound.peer
  exact ⟨hforeign, hring⟩

theorem after_seeCommit (h : s.EnginesTogether) (hx : s.link ≠ .offline) (k : Option Commit) :
    (seeCommit k s).EnginesTogether :=
  h.onRae (by simp [KeepsFrame]) (by simp) (seeCommit_soundIn h.sound.rae hx k)

theorem after_takePower (h : s.EnginesTogether) (p : PowerRequest) : (takePower p s).EnginesTogether :=
  h.onTae (by simp [KeepsFrame]) (by simp) (takePower_soundIn h.sound.tae h.sound.params p)

theorem after_takeRequest (h : s.EnginesTogether) (r : Request) : (takeRequest r s).EnginesTogether :=
  h.onTae (by simp [KeepsFrame]) (by simp) (takeRequest_soundIn h.sound.tae h.zero h.sound.params r)

theorem after_acceptWord (h : s.EnginesTogether) (hx : s.link ≠ .offline) (m : Superframe) (w : OverheadWord) :
    (acceptWord m w s).EnginesTogether := by
  unfold acceptWord
  split
  · have hopen := PeerChannel.taken_open h.sound.peer m w
    have hraised : (raise .echoFault s).EnginesSound := h.sound.congr (by simp [KeepsFrame]) (by simp)
    exact hraised.after_enterDown hopen.foreign hopen.ring
  · rename_i hfault
    have htaken : (s.withPeer (s.peer.taken m w)).EnginesSound :=
      ⟨h.sound.ladder, h.sound.params, PeerChannel.taken_lawful h.sound.peer m w (by simpa using hfault), h.sound.rae,
        h.sound.tae⟩
    have hraised := htaken.congr (t := raiseIf (wordTakesUp s.peer m w) .peerUp (s.withPeer (s.peer.taken m w)))
      (by simp [KeepsFrame]) (by simp)
    have hsupervised := hraised.after_supervisorHandOff (by simpa using hx)
      (fun hadapting => by simpa using PeerChannel.taken_state_of_up (h.adapting (by simpa using hadapting)).1 m w)
      (by simpa using h.pin)
    have hseen := hsupervised.after_seeCommit (supervisorHandOff_not_offline (by simpa using hx)) w.fields.commit
    exact (hseen.after_takePower _).after_takeRequest _

theorem after_passIdentity (h : s.EnginesTogether) : (passIdentity s).EnginesTogether :=
  h.withPeer (PeerChannel.withForeign_lawful h.sound.peer (by have := h.foreign_ring.1; omega) s.peer.counters) rfl rfl

theorem after_foreignWord (h : s.EnginesTogether) : (foreignWord s).EnginesTogether := by
  have hcount : (if foreignReached s then 0 else s.peer.foreign + 1) ≤ 254 := by
    have hparams := h.sound.params
    unfold Params.Lawful at hparams
    split
    · exact Nat.zero_le _
    · rename_i hreached
      simp only [foreignReached, decide_eq_true_eq] at hreached
      omega
  have hcounted := h.withPeer (PeerChannel.withForeign_lawful h.sound.peer hcount
    { s.peer.counters with foreignWords := s.peer.counters.foreignWords + 1 }) rfl rfl
  exact hcounted.congr (by simp [KeepsFrame, foreignWord]) (by simp)

theorem after_checkOrder (h : s.EnginesTogether) (m : Superframe) (w : OverheadWord) :
    (checkOrder m w s).EnginesTogether := by
  unfold checkOrder
  split
  · exact h
  · split
    · exact h.after_acceptWord ‹_› m w
    · exact h.withPeer (PeerChannel.withCounters_lawful h.sound.peer _) rfl rfl

theorem after_checkWord (h : s.EnginesTogether) (m : Superframe) (bytes : List Byte) :
    (checkWord m bytes s).EnginesTogether := by
  unfold checkWord
  split
  · unfold checkIdentity
    split
    · exact h.after_passIdentity.after_checkOrder m _
    · exact h.after_foreignWord
  · exact h.withPeer (PeerChannel.withCounters_lawful h.sound.peer _) rfl rfl

theorem after_silenceStrobe (h : s.EnginesTogether) : (silenceStrobe s).EnginesTogether := by
  obtain ⟨hforeign, hring⟩ := h.foreign_ring
  unfold silenceStrobe
  split
  · exact h
  · rename_i hstate
    split
    · exact h.sound.after_enterDown hforeign hring
    · rename_i hreached
      have hparams := h.sound.params
      unfold Params.Lawful at hparams
      simp only [silenceReached, hstate, ne_eq, not_false_eq_true, decide_true, Bool.true_and,
        decide_eq_true_eq] at hreached
      exact h.withPeer (PeerChannel.withSilence_lawful h.sound.peer (by omega) hstate) rfl rfl

/-! ### Reports and strobes -/

/-- A change within adaptive operation, to a state whose pin profile is enabled. -/
theorem after_changeLink_adapting (h : s.EnginesTogether) (hx : s.link.adapting = true) {new : LinkState}
    (hnew : new.adapting = true) (hpin : ∀ p ∈ new.pin?, s.ladder.active.enabledAt p = true) :
    (changeLink new id s).EnginesTogether := by
  obtain ⟨hup, hdigest⟩ := h.adapting hx
  exact (h.sound.after_changeLink_id (LinkState.not_offline_of_adapting hx) (LinkState.not_offline_of_adapting hnew)
    (.inl hnew)).inAdapting hnew (by simpa using hup) (by simpa using hdigest) (by simpa using hpin)

theorem after_supervisorOverflow (h : s.EnginesTogether) : (supervisorOverflow s).EnginesTogether := by
  unfold supervisorOverflow
  split
  · rename_i hx
    exact (h.after_changeLink_adapting (new := .adaptive) (by simp [hx, LinkState.adapting]) rfl
      (by simp [LinkState.pin?])).congr (by simp [KeepsFrame]) (by simp)
  · exact h

theorem after_overflowNotice (h : s.EnginesTogether) (l : Branch) : (overflowNotice l s).EnginesTogether := by
  unfold overflowNotice
  split
  · have hnoted := h.onRae (t := raeOverflow s) (by simp [KeepsFrame]) (by simp) (raeOverflow_soundIn h.sound.rae)
    exact hnoted.after_supervisorOverflow
  · exact h

theorem after_monitorReport (h : s.EnginesTogether) (l : Branch) (r : Report) :
    (monitorReport l r s).EnginesTogether := by
  have hmeasured : (raiseIf (losesLock (s.monitor.get l) r) .branchLost (monitorStep l r s)).EnginesTogether :=
    h.congr (by simp [KeepsFrame]) (by simp)
  unfold monitorReport
  split
  · exact (hmeasured.congr (t := raise (burstOverflowEvent l) _) (by simp [KeepsFrame]) (by simp)).after_overflowNotice l
  · exact hmeasured

theorem after_handleReport (h : s.EnginesTogether) (l : Branch) (r : Report) :
    (handleReport l r s).EnginesTogether := by
  have hclassified : (reportClassified l r s).EnginesTogether :=
    (h.after_monitorReport l r).congr (by simp [KeepsFrame, reportClassified]) (by simp [reportClassified])
  have hworded : (reportWorded l r s).EnginesTogether := by
    unfold reportWorded wordStep
    split
    · exact hclassified.after_checkWord _ _
    · exact hclassified
  unfold handleReport headerStep
  split
  · exact hworded.onRae (by simp [KeepsFrame]) (by simp)
      (raeHeader_soundIn hworded.sound.rae hworded.sound.params l _)
  · exact hworded

theorem after_reportWhen (h : s.EnginesTogether) (l : Branch) (message : List Byte) (when : Report → Bool) :
    (reportWhen l message when s).EnginesTogether := by
  unfold reportWhen
  split
  · exact h.ite (h.after_handleReport l _) _
  · exact h

theorem after_evaluate (h : s.EnginesTogether) : (evaluate s).EnginesTogether := by
  have hselected : (selectorEvaluate s).EnginesTogether := h.congr (by simp [KeepsFrame]) (by simp)
  exact hselected.onRae (by simp [KeepsFrame, evaluate]) (by simp [evaluate])
    (raeEvaluate_soundIn hselected.sound.rae fun p hp => Ladder.enabledAt_le (hselected.pin p hp))

theorem after_taeStrobe (h : s.EnginesTogether) : (taeStrobe s).EnginesTogether :=
  h.onTae (by simp [KeepsFrame]) (by simp) (taeStrobe_soundIn h.sound.tae h.sound.params)

/-! ### The slot request and DRAIN READY -/

theorem after_handleSlot (h : s.EnginesTogether) (n : Superframe) : (handleSlot n s).EnginesTogether := by
  have hswitched : (switchDue n (s.withTae { s.tae with lastSlot := some n })).EnginesTogether :=
    h.onTae (by simp [KeepsFrame]) (by simp) (switchDue_soundIn h.sound.tae n)
  have hserved := hswitched.onTae (t := serveFallback _) (by simp [KeepsFrame]) (by simp)
    (serveFallback_soundIn hswitched.sound.tae hswitched.zero hswitched.sound.params)
  unfold handleSlot sendTransmitOrder
  split
  · exact hserved.congr (by simp [KeepsFrame]) (by simp)
  · exact (hserved.withPeer (PeerChannel.challenged_lawful hserved.sound.peer) rfl rfl).congr (by simp [KeepsFrame])
      (by simp)

theorem after_execTransmitSlotRequest (h : s.EnginesTogether) (l : Branch) (m : List Byte) :
    ∃ t, execTransmitSlotRequest l m s = .next t ∧ t.EnginesTogether := by
  refine ⟨_, rfl, ?_⟩
  split
  · exact h.ite (h.after_handleSlot _) _
  · exact h

theorem after_handleDrainReady (h : s.EnginesTogether) (p : BitVec 4) : (handleDrainReady p s).EnginesTogether :=
  h.onTae (by simp [KeepsFrame]) (by simp) (handleDrainReady_soundIn h.sound.tae h.sound.params p)

theorem after_execDrainReady (h : s.EnginesTogether) (m : List Byte) :
    ∃ t, execDrainReady m s = .next t ∧ t.EnginesTogether := by
  refine ⟨_, rfl, ?_⟩
  split
  · exact h.ite (h.after_handleDrainReady _) _
  · exact h

/-! ### The Capacity Link and the input store -/

theorem after_messageSent (h : s.EnginesTogether) (l : Branch) : (messageSent l s).EnginesTogether := by
  unfold messageSent
  split
  · exact h
  · exact h.congr (by simp [KeepsFrame, sendModem]) (by simp [sendModem])

theorem after_execCapacityRead (h : s.EnginesTogether) (m : List Byte) :
    ∃ t, execCapacityRead m s = .next t ∧ t.EnginesTogether :=
  ⟨_, rfl, h.ite (h.congr (by simp [KeepsFrame]) (by simp)) _⟩

theorem after_execEndOfRead (h : s.EnginesTogether) : ∃ t, execEndOfRead s = .next t ∧ t.EnginesTogether := by
  refine ⟨_, rfl, ?_⟩
  split
  · exact h.congr (by simp [KeepsFrame]) (by simp)
  · exact h

theorem of_turnOfFrame (h : s.EnginesTogether) {f : List Byte} {t : State} (ht : turnOfFrame f s = some t) :
    t.EnginesTogether := by
  unfold turnOfFrame at ht
  split at ht
  · cases ht
  · split at ht
    · cases ht
      exact h
    · split at ht
      · cases ht
        exact h.congr (by simp [KeepsFrame]) (by simp)
      · cases ht
    · cases ht

theorem after_execUnknownCommand (h : s.EnginesTogether) (f : List Byte) :
    ∃ t, execUnknownCommand f s = .next t ∧ t.EnginesTogether := by
  refine ⟨_, rfl, ?_⟩
  split
  · rename_i ht
    exact (h.of_turnOfFrame ht).after_respond _
  · exact h

/-! ### Events, parameters and counters -/

theorem after_noteReported (h : s.EnginesTogether) : (noteReported s).EnginesTogether :=
  h.congr (by simp [KeepsFrame, noteReported]) (by simp [noteReported])

theorem after_clearReported (h : s.EnginesTogether) : (clearReported s).EnginesTogether :=
  h.congr (by simp [KeepsFrame, clearReported]) (by simp [clearReported])

theorem after_setMask (h : s.EnginesTogether) (m : EventSet) : (setMask m s).EnginesTogether :=
  h.congr (by simp [KeepsFrame, setMask]) (by simp [setMask])


/-- A parameter acts on the engines through the attenuation alone (R136, R171). -/
theorem after_storeParameter (h : s.EnginesTogether) {which : ParamId} {x : Int}
    (hx : which.range.1 ≤ x ∧ x ≤ which.range.2) (hc : s.params.consistent which x = true) :
    (storeParameter which x s).EnginesTogether := by
  have hparams := Params.store_lawful h.sound.params hx hc
  have hstored : (s.withParams (s.params.store which x)).EnginesTogether :=
    ⟨⟨h.sound.ladder, hparams, h.sound.peer, h.sound.rae, h.sound.tae⟩, h.link⟩
  have hset (a : Nat) (ha : a ≤ 80) :
      (setAttenuation a (s.withParams (s.params.store which x))).EnginesTogether :=
    hstored.onTae (by simp [KeepsFrame]) (by simp) (setAttenuation_soundIn hstored.sound.tae ha)
  have hafter := attenuationAfter_le hparams which h.sound.tae.sound.attenuation
  unfold storeParameter paramEffects
  split
  · exact hstored.congr (by simp [KeepsFrame]) (by simp)
  · exact hstored.congr (by simp [KeepsFrame]) (by simp)
  · exact hstored.congr (by simp [KeepsFrame]) (by simp)
  · exact hset _ hafter

theorem after_setParameter (h : s.EnginesTogether) (identifier : Byte) (value : BitVec 32) :
    (setParameter identifier value s).EnginesTogether := by
  unfold setParameter
  split
  · exact h.after_respond _
  · exact h.after_respond _
  · rename_i hj
    obtain ⟨hx, hc⟩ := Params.judge_take hj
    exact (h.after_storeParameter hx hc).after_respond _

theorem after_readParameter (h : s.EnginesTogether) (identifier : Byte) :
    (readParameter identifier s).EnginesTogether := by
  unfold readParameter
  split <;> exact h.after_respond _

theorem after_zeroCounters (h : s.EnginesTogether) : (zeroCounters s).EnginesTogether :=
  ⟨⟨h.sound.ladder, h.sound.params, PeerChannel.withCounters_lawful h.sound.peer _, h.sound.rae.withCounters _,
    h.sound.tae.withPower h.sound.tae.sound.attenuation h.sound.tae.sound.slew s.tae.fallbackOwed _⟩, h.link⟩

/-! ### The Profile Ladder's commands (LadderCommands.lean) -/

theorem edit (h : s.EnginesTogether) : s.ladder.edit.Lawful := by
  obtain ⟨-, hedit, -⟩ := h.sound.ladder
  exact hedit

theorem after_revertEdit (h : s.EnginesTogether) : (revertEdit s).EnginesTogether := by
  obtain ⟨hactive, -⟩ := h.sound.ladder
  exact h.withEdit (Ladder.trimmed_lawful hactive)

theorem after_writeLadderEntry (h : s.EnginesTogether) (i : Byte) (f : EntryFields) :
    (writeLadderEntry i f s).EnginesTogether := by
  have hwrite : (writeEdit i.toNat (storedEntry f) s).EnginesTogether :=
    h.withEdit (Ladder.set_lawful h.edit _ (storedEntry_lawful f))
  unfold writeLadderEntry
  split
  · exact h.after_respond _
  · split <;> exact hwrite.after_respond _

theorem after_readLadderEntry (h : s.EnginesTogether) (copy i : Byte) : (readLadderEntry copy i s).EnginesTogether := by
  rw [readLadderEntry_eq]
  exact h.after_respond _

theorem after_setLadderCount (h : s.EnginesTogether) (n : Byte) : (setLadderCount n s).EnginesTogether := by
  have hcount : appliedCount n.toNat ≤ 12 := by rw [appliedCount_eq]; omega
  exact State.EnginesTogether.after_respond (h.withEdit (Ladder.withCount_lawful h.edit hcount)) _

/-- A commit replaces the ladder under engines at rest, whose only profile is the reference entry (R12, R13). -/
theorem after_replaceActive (h : s.EnginesTogether) (hr : commitRefusal s = none) :
    (replaceActive s).EnginesTogether := by
  have hfailure := State.BlockLawful.failure_of_commitRefusal hr
  have hladder := ProfileLadder.commit_lawful h.sound.ladder hfailure
  have hzero : s.ladder.edit.trimmed.enabledAt 0 = true := 
    hladder.enabledAt_zero (Ladder.count_of_valid (l := s.ladder.edit) hfailure)
  obtain ⟨hadapting, hrest⟩ := commitRefusal_none hr
  have hholding (hx : s.link ≠ .offline) : s.link.holding = true := by
    cases hl : s.link <;> simp_all [LinkState.adapting, LinkState.holding]
  have hat (hx : s.link ≠ .offline) := (atRest_iff s).1 (hrest (hholding hx))
  have hsteady : s.tae.c = 0 ∧ s.tae.state = .steady := by
    by_cases hx : s.link = .offline
    · exact h.sound.tae.atRest hx
    · obtain ⟨hcommitted, -, hc, -⟩ := hat hx
      have hdrain := h.sound.tae.noDrain hadapting
      refine ⟨hc, ?_⟩
      cases hs : s.tae.state with
      | steady => rfl
      | draining d timer limit => simp [hs, TaeState.drain?] at hdrain
      | committed k => exact absurd hs (hcommitted k)
  have hcommit : s.rae.commit = none := by
    by_cases hx : s.link = .offline
    · exact h.sound.rae.atRest hx
    · obtain ⟨-, hnone, -⟩ := hat hx
      exact hnone
  have he (hx : s.link ≠ .offline) : s.rae.e = 0 := by
    obtain ⟨-, -, -, he⟩ := hat hx
    exact he
  obtain ⟨hc, hstate⟩ := hsteady
  have hrae : s.rae.SoundIn s.link s.ladder.edit.trimmed :=
    ⟨fun hx => by rw [he hx]; exact hzero, by simp [hcommit], fun _ => hcommit, h.sound.rae.range⟩
  have htae : s.tae.SoundIn s.link s.ladder.edit.trimmed :=
    ⟨⟨fun e => absurd hc e, h.sound.tae.sound.slot, by rw [hstate]; trivial, h.sound.tae.sound.attenuation,
      h.sound.tae.sound.slew⟩, h.sound.tae.atRest, h.sound.tae.noDrain⟩
  have hsound : (replaceActive s).EnginesSound := ⟨hladder, h.sound.params, h.sound.peer, hrae, htae⟩
  by_cases hx : s.link = .offline
  · exact hsound.inOffline hx (h.offline hx)
  · exact hsound.inHolding (hholding hx)

theorem after_supervisorLadder (h : s.EnginesTogether) : (supervisorLadder s).EnginesTogether := by
  unfold supervisorLadder
  split
  · split
    · exact h.sound.after_compareInAcquire ‹_› ‹_›
    · exact h
  · exact h

theorem after_commitLadder (h : s.EnginesTogether) : (commitLadder s).EnginesTogether := by
  unfold commitLadder
  split
  · exact h.after_respond _
  · rename_i hr
    have hcompared := (h.after_replaceActive hr).after_supervisorLadder
    refine State.EnginesTogether.after_respond ?_ _
    unfold carryOutCommit
    split
    · exact hcompared.congr (by simp [KeepsFrame]) (by simp)
    · exact hcompared

/-! ### The Link Supervisor's commands (LinkCommands.lean) -/

/-- START puts both engines on the reference entry (R114, R135). -/
theorem after_startCommand (h : s.EnginesTogether) : (startCommand s).EnginesTogether := by
  unfold startCommand
  split
  · exact h.after_respond _
  · split
    · exact h.after_respond _
    · rename_i hcount
      refine State.EnginesTogether.after_respond ?_ _
      have hzero := h.sound.ladder.enabledAt_zero hcount
      have hrae : (startLink s).rae = { Rae.reset with counters := s.rae.counters } := by
        simp [startLink, changeLink, taeStart, raeStart]
      have htae : (startLink s).tae = { s.tae with
          c := 0, state := .steady, lastSlot := none, fallbackOwed := false, slew := 0,
          attenuation := s.params.attMin } := by
        simp [startLink, changeLink, taeStart]
      have hframe : (startLink s).ladder = s.ladder ∧ (startLink s).params = s.params ∧ (startLink s).peer = s.peer
          ∧ (startLink s).link = .acquire .starting := by
        simp [startLink, changeLink, taeStart]
      obtain ⟨hladder, hparams, hpeer, hlink⟩ := hframe
      have hsound : (startLink s).EnginesSound := by
        refine ⟨hladder ▸ h.sound.ladder, hparams ▸ h.sound.params, hpeer ▸ h.sound.peer, ?_, ?_⟩
        · rw [hrae, hlink, hladder]
          exact Rae.SoundIn.started _ hzero _ (by simp)
        · rw [htae, hlink, hladder]
          exact Tae.Sound.inRunning
            ⟨fun e => absurd rfl e, by simp, trivial, attMin_le h.sound.params, Nat.zero_le _⟩ (by simp) rfl
      exact hsound.inHolding (by simp [hlink, LinkState.holding])

/-- STOP takes the channel DOWN and puts both engines at rest (R80, R114, R134). -/
theorem after_stopCommand (h : s.EnginesTogether) : (stopCommand s).EnginesTogether := by
  unfold stopCommand
  split
  · exact h.after_respond _
  · refine State.EnginesTogether.after_respond ?_ _
    have hpeer : (stopLink s).peer.Lawful ∧ (stopLink s).peer.state = .down := by
      rw [stopLink_peer]
      split
      · exact ⟨h.sound.peer, ‹_›⟩
      · obtain ⟨hforeign, hring⟩ := h.foreign_ring
        exact ⟨PeerChannel.entersDown_lawful hforeign hring, rfl⟩
    have hatt : (if s.peer.state = .down then s.tae.attenuation else s.params.attMin) ≤ 80 := by
      split
      · exact h.sound.tae.sound.attenuation
      · exact attMin_le h.sound.params
    have hrae : (stopLink s).rae.SoundIn .offline s.ladder.active := by
      rw [stopLink_rae]
      exact raeStop_soundIn h.sound.rae
    have htae : (stopLink s).tae.SoundIn .offline s.ladder.active := by
      rw [stopLink_tae]
      exact ⟨⟨fun e => absurd rfl e, by simp, trivial, hatt, h.sound.tae.sound.slew⟩, fun _ => ⟨rfl, rfl⟩, fun _ => rfl⟩
    obtain ⟨hladder, hlink, hparams⟩ := stopLink_kept s
    obtain ⟨hlawful, hdown⟩ := hpeer
    have hsound : (stopLink s).EnginesSound :=
      ⟨hladder ▸ h.sound.ladder, hparams ▸ h.sound.params, hlawful, by rw [hlink, hladder]; exact hrae,
        by rw [hlink, hladder]; exact htae⟩
    exact hsound.inOffline hlink hdown

theorem after_holdCommand (h : s.EnginesTogether) : (holdCommand s).EnginesTogether := by
  unfold holdCommand
  split
  · rename_i hx
    exact (h.sound.after_changeLink_fallback_together (by simp [hx]) rfl).after_respond _
  · rename_i hx
    exact (h.sound.after_changeLink_fallback_together (by simp [hx]) rfl).after_respond _
  · rename_i hx
    exact ((h.sound.after_changeLink_id (by simp [hx]) (by simp)
      (.inr (h.sound.tae.noDrain (by simp [hx, LinkState.adapting])))).inHolding rfl).after_respond _
  · exact h.after_respond _
  · exact h.after_respond _

theorem after_resumeCommand (h : s.EnginesTogether) : (resumeCommand s).EnginesTogether := by
  unfold resumeCommand
  split
  · rename_i hx
    exact ((h.sound.after_changeLink_id (by simp [hx]) (by simp)
      (.inr (h.sound.tae.noDrain (by simp [hx, LinkState.adapting])))).inHolding rfl).after_respond _
  · exact h.after_respond _

theorem after_pinCommand (h : s.EnginesTogether) (p : Byte) : (pinCommand p s).EnginesTogether := by
  unfold pinCommand
  split
  · exact h.after_respond _
  · split
    · exact h.after_respond _
    · rename_i hx
      split
      · exact h.after_respond _
      · rename_i hen
        split
        · exact h.after_respond _
        · exact (h.after_changeLink_adapting (by simpa using hx) rfl
            (by simpa [LinkState.pin?] using hen)).after_respond _

theorem after_unpinCommand (h : s.EnginesTogether) : (unpinCommand s).EnginesTogether := by
  unfold unpinCommand
  split
  · rename_i hx
    have hchanged := h.after_changeLink_adapting (new := .adaptive) (by simp [hx, LinkState.adapting]) rfl
      (by simp [LinkState.pin?])
    exact (hchanged.congr (t := (changeLink .adaptive id s).withUnpinned true) (by simp [KeepsFrame])
      (by simp)).after_respond _
  · exact h.after_respond _

theorem after_setExclusion (h : s.EnginesTogether) (code : Byte) (x : Bool) :
    (setExclusion code x s).EnginesTogether := by
  unfold setExclusion
  split
  · exact (h.congr (t := s.withSelector _) (by simp [KeepsFrame]) (by simp)).after_respond _
  · exact h.after_respond _

/-! ### The resets (Resets.lean) -/

theorem after_softResetBlocks (h : s.EnginesTogether) : (softResetBlocks s).EnginesTogether := by
  have hsound : (softResetBlocks s).EnginesSound :=
    ⟨h.after_revertEdit.sound.ladder, h.sound.params, PeerChannel.reset_lawful, Rae.SoundIn.reset _,
      Tae.SoundIn.resetAt _ (softAttenuation_le h.sound.params)⟩
  exact hsound.inOffline rfl rfl

end State.EnginesTogether

/-- Every command keeps the engines together. -/
theorem exec_enginesTogether (c : Instr) {s : State} (h : s.EnginesTogether) :
    ∃ t, exec c s = .next t ∧ t.EnginesTogether := by
  cases c with
  | powerOnReset => exact ⟨_, rfl, reset_enginesTogether.congr ⟨rfl, rfl, rfl, rfl⟩ ⟨rfl, rfl⟩⟩
  | softReset =>
    exact ⟨_, rfl, h.after_onTurn _ fun t ht => ht.congr (by simp [KeepsFrame]) (by simp)⟩
  | softResetTakesEffect n => exact ⟨_, rfl, h.ite (h.congr (by simp [KeepsFrame]) (by simp)).after_softResetBlocks _⟩
  | modemLinkDown l => exact ⟨_, rfl, h.ite (h.congr (by simp [KeepsFrame, linkLost]) (by simp [linkLost])) _⟩
  | modemLinkUp l => exact ⟨_, rfl, h.congr (by simp [KeepsFrame]) (by simp)⟩
  | modemMessageSent l => exact ⟨_, rfl, h.after_messageSent l⟩
  | branchReport l m => exact ⟨_, rfl, h.after_reportWhen l m _⟩
  | burstOverflow l m => exact ⟨_, rfl, h.after_reportWhen l m _⟩
  | longFade l m => exact ⟨_, rfl, h.after_reportWhen l m _⟩
  | fastFadingOff l m => exact ⟨_, rfl, h.after_reportWhen l m _⟩
  | foreignSignal l m => exact ⟨_, rfl, h.after_reportWhen l m _⟩
  | peerUp l m => exact ⟨_, rfl, h.after_reportWhen l m _⟩
  | echoFault l m => exact ⟨_, rfl, h.after_reportWhen l m _⟩
  | headerFollow l m => exact ⟨_, rfl, h.after_reportWhen l m _⟩
  | transmitSlotRequest l m => exact h.after_execTransmitSlotRequest l m
  | reportAgeCount => exact ⟨_, rfl, h.congr (by simp [KeepsFrame]) (by simp)⟩
  | evaluation => exact ⟨_, rfl, h.after_evaluate⟩
  | branchSwitched => exact ⟨_, rfl, h.ite h.after_evaluate _⟩
  | upshiftDwellReached => exact ⟨_, rfl, h.ite h.after_evaluate _⟩
  | requestStalled => exact ⟨_, rfl, h.ite h.after_evaluate _⟩
  | silenceCount => exact ⟨_, rfl, h.after_silenceStrobe⟩
  | peerTimeout => exact ⟨_, rfl, h.ite h.after_silenceStrobe _⟩
  | taeStrobe => exact ⟨_, rfl, h.after_taeStrobe⟩
  | drainTimeout => exact ⟨_, rfl, h.ite h.after_taeStrobe _⟩
  | slewStep => exact ⟨_, rfl, h.ite h.after_taeStrobe _⟩
  | capacityLinkUp => exact ⟨_, rfl, h.congr (by simp [KeepsFrame]) (by simp)⟩
  | capacityLinkReset n => exact ⟨_, rfl, h.ite (h.congr (by simp [KeepsFrame]) (by simp)) _⟩
  | capacityRead m => exact h.after_execCapacityRead m
  | endOfRead => exact h.after_execEndOfRead
  | drainReady m => exact h.after_execDrainReady m
  | frameStrobeCount => exact ⟨_, rfl, h.congr (by simp [KeepsFrame]) (by simp)⟩
  | frameTimeout => exact ⟨_, rfl, h.ite (h.congr (by simp [KeepsFrame]) (by simp)) _⟩
  | unknownCommand f => exact h.after_execUnknownCommand f
  | readStatus => exact ⟨_, rfl, h.after_onTurn _ fun t ht => ht.after_noteReported.after_respond _⟩
  | clearEvents => exact ⟨_, rfl, h.after_onTurn _ fun t ht => ht.after_clearReported.after_respond _⟩
  | setEventMask m => exact ⟨_, rfl, h.after_onTurn _ fun t ht => (ht.after_setMask _).after_respond _⟩
  | readCounters => exact ⟨_, rfl, h.after_onTurn _ fun t ht => ht.after_respond _⟩
  | clearCounters => exact ⟨_, rfl, h.after_onTurn _ fun t ht => ht.after_zeroCounters.after_respond _⟩
  | setParameter i v => exact ⟨_, rfl, h.after_onTurn _ fun t ht => ht.after_setParameter i v⟩
  | readParameter i => exact ⟨_, rfl, h.after_onTurn _ fun t ht => ht.after_readParameter i⟩
  | writeLadderEntry i f => exact ⟨_, rfl, h.after_onTurn _ fun t ht => ht.after_writeLadderEntry i f⟩
  | readLadderEntry copy i => exact ⟨_, rfl, h.after_onTurn _ fun t ht => ht.after_readLadderEntry copy i⟩
  | setLadderCount n => exact ⟨_, rfl, h.after_onTurn _ fun t ht => ht.after_setLadderCount n⟩
  | commitLadder => exact ⟨_, rfl, h.after_onTurn _ fun t ht => ht.after_commitLadder⟩
  | revertLadder => exact ⟨_, rfl, h.after_onTurn _ fun t ht => ht.after_revertEdit.after_respond _⟩
  | start => exact ⟨_, rfl, h.after_onTurn _ fun t ht => ht.after_startCommand⟩
  | stop => exact ⟨_, rfl, h.after_onTurn _ fun t ht => ht.after_stopCommand⟩
  | hold => exact ⟨_, rfl, h.after_onTurn _ fun t ht => ht.after_holdCommand⟩
  | resume => exact ⟨_, rfl, h.after_onTurn _ fun t ht => ht.after_resumeCommand⟩
  | pin p => exact ⟨_, rfl, h.after_onTurn _ fun t ht => ht.after_pinCommand p⟩
  | unpin => exact ⟨_, rfl, h.after_onTurn _ fun t ht => ht.after_unpinCommand⟩
  | excludeBranch b => exact ⟨_, rfl, h.after_onTurn _ fun t ht => ht.after_setExclusion b true⟩
  | includeBranch b => exact ⟨_, rfl, h.after_onTurn _ fun t ht => ht.after_setExclusion b false⟩
  | controlLinkByteArrival b => exact ⟨_, rfl, h.congr (by simp [KeepsFrame]) (by simp)⟩

/-- Settles O59: a step on an empty queue idles, and the command at the front keeps the engines together. -/
theorem everyStepKeepsTheEnginesTogether : Obligations.EveryStepKeepsTheEnginesTogether := by
  intro s t hstep h
  rw [← enginesTogether_iff] at h ⊢
  unfold step at hstep
  split at hstep
  · cases hstep
    exact h
  · rename_i c rest _
    obtain ⟨u, hu, htogether⟩ := exec_enginesTogether c (h.congr (t := s.withPending rest) ⟨rfl, rfl, rfl, rfl⟩ ⟨rfl, rfl⟩)
    rw [hu] at hstep
    cases hstep
    exact htogether

end Sys2Proof.Machine
end

section
/-! PROOFS. STOP (R157): O23. -/

namespace Sys2Proof.Machine

theorem exec_stop_of_turn {s t : State} (h : turn .stop s = some t) : exec .stop s = .next (stopCommand t) := by
  simp only [exec, execStop, onTurn_of_some h]

/-- The record of a link in OFFLINE with both engines at rest. -/
theorem recordNow_atRest {s : State} (g : BitVec 16) (hx : s.link = .offline) (hc : s.tae.c = 0)
    (hstate : s.tae.state = .steady) (hcommit : s.rae.commit = none) :
    recordNow g s = ⟨g, 0, 0, 0, .none, s.rae.e, 0, .none⟩ := by
  simp [recordNow, shownCapacity, txPending, rxPending, hx, hc, hstate, hcommit, LinkState.code]

/-- Settles O23: in OFFLINE the response alone; otherwise the blocks of `stopLink_eq` and the record published of them. -/
theorem stopMutesTheLink : Obligations.StopMutesTheLink := by
  intro s t h
  rw [exec_stop_of_turn h]
  obtain ⟨-, hlink, -⟩ := stopLink_kept t
  refine ⟨fun hx => by simp [stopCommand, hx], fun hx => ⟨stopLink t, by simp [stopCommand, hx], hlink, stopLink_peer t,
    stopLink_rae t, stopLink_tae t, ?_, ?_, ?_, ?_⟩⟩
  · rw [stopLink_eq, BitVec.or_comm]
    rfl
  · rw [stopLink_eq]
    rfl
  · rw [stopLink_eq]
    exact (publish_recordCurrent _).trans (recordNow_atRest _ rfl rfl rfl rfl)
  · rw [stopLink_eq]
    rfl

end Sys2Proof.Machine
end

section
/-! SUPPORT. Entering DOWN (R76): the DOWN notice reads neither the channel nor the Control Link Interface, so that what it
does is said of the state before the channel's own change. -/

namespace Sys2Proof.Machine

/-- The channel and the Control Link Interface replaced, as the channel's own work replaces them. -/
def State.withChannel (s : State) (k : PeerChannel) (c : ControlLink) : State := (s.withPeer k).withControl c

@[simp] theorem withChannel_peer (s : State) (k : PeerChannel) (c : ControlLink) : (s.withChannel k c).peer = k := rfl

@[simp] theorem withChannel_control (s : State) (k : PeerChannel) (c : ControlLink) :
    (s.withChannel k c).control = c := rfl

@[simp] theorem withChannel_frame (s : State) (k : PeerChannel) (c : ControlLink) :
    (s.withChannel k c).ladder = s.ladder ∧ (s.withChannel k c).modem = s.modem
      ∧ (s.withChannel k c).monitor = s.monitor ∧ (s.withChannel k c).fade = s.fade
      ∧ (s.withChannel k c).selector = s.selector ∧ (s.withChannel k c).rae = s.rae
      ∧ (s.withChannel k c).tae = s.tae ∧ (s.withChannel k c).capacity = s.capacity
      ∧ (s.withChannel k c).link = s.link ∧ (s.withChannel k c).params = s.params
      ∧ (s.withChannel k c).sent = s.sent ∧ (s.withChannel k c).pending = s.pending
      ∧ (s.withChannel k c).unpinned = s.unpinned := by
  simp [State.withChannel]

section

variable (s : State) (k : PeerChannel) (c : ControlLink)

theorem publish_withChannel : publish (s.withChannel k c) = (publish s).withChannel k c := rfl

theorem becomeSteady_withChannel : becomeSteady (s.withChannel k c) = (becomeSteady s).withChannel k c := rfl

theorem recordCommit_withChannel (p lead : Nat) (x y : Bool) :
    recordCommit p lead x y (s.withChannel k c) = (recordCommit p lead x y s).withChannel k c := by
  simp only [recordCommit, withChannel_frame]
  cases s.tae.lastSlot <;> rfl

theorem requestAlert_withChannel (p : Nat) (switch : Option Superframe) :
    requestAlert p switch (s.withChannel k c) = (requestAlert p switch s).withChannel k c := by
  unfold requestAlert placeAlert
  simp only [withChannel_frame]
  split
  · cases h : s.capacity.held <;> rfl
  · rfl

theorem commitAlert_withChannel : commitAlert (s.withChannel k c) = (commitAlert s).withChannel k c := by
  cases h : s.tae.state with
  | committed q =>
    simp only [commitAlert, withChannel_frame, h]
    split
    · exact requestAlert_withChannel s k c _ _
    · rfl
  | _ => simp only [commitAlert, withChannel_frame, h]

theorem makeCommit_withChannel (p lead : Nat) (x y : Bool) :
    makeCommit p lead x y (s.withChannel k c) = (makeCommit p lead x y s).withChannel k c := by
  simp only [makeCommit, recordCommit_withChannel, commitAlert_withChannel]

theorem fallback_withChannel : fallback (s.withChannel k c) = (fallback s).withChannel k c := by
  unfold fallback
  rw [becomeSteady_withChannel, makeCommit_withChannel, publish_withChannel]
  simp only [withChannel_frame]
  cases s.tae.commit? with
  | none =>
    dsimp only
    split <;> rfl
  | some q =>
    dsimp only
    (repeat' split) <;> rfl

/-- A change of link state, of which STATE_CHANGED is the only event. -/
theorem changeLink_withChannel (new : LinkState) {act : State → State}
    (hact : ∀ u : State, act (u.withChannel k c) = (act u).withChannel k c) :
    changeLink new act (s.withChannel k c)
      = (changeLink new act s).withChannel k (c.afterRaising Event.stateChanged.flag) := by
  have hlink : (s.withChannel k c).withLink new = (s.withLink new).withChannel k c := rfl
  unfold changeLink
  rw [hlink, hact, raise_eq_withControl]
  rfl

/-- What the DOWN notice does to the rest of the state does not depend on the channel and the events (R161). -/
theorem supervisorDown_withChannel :
    supervisorDown (s.withChannel k c) = (supervisorDown s).withChannel k
      (c.afterRaising (if (supervisorDown s).link = s.link then 0#21 else Event.stateChanged.flag)) := by
  have hfallback := changeLink_withChannel s k c (.acquire .peerDown) fun u => fallback_withChannel u k c
  have hid := changeLink_withChannel s k c (.acquire .peerDown) (act := id) fun u => rfl
  have hlink : (changeLink (.acquire .peerDown) fallback s).link = .acquire .peerDown := by simp [changeLink]
  cases hx : s.link with
  | adaptive => simp only [supervisorDown, withChannel_frame, hx, hfallback, hlink]; rfl
  | pinned p => simp only [supervisorDown, withChannel_frame, hx, hfallback, hlink]; rfl
  | acquire reason =>
    by_cases hr : reason = .peerDown
    · simp [supervisorDown, hx, hr]
    · simp [supervisorDown, hx, hr, hid, Ne.symm hr]
  | _ => simp [supervisorDown, hx]

/-- Entering DOWN, in terms of the DOWN notice on the state before the channel's work (R76, R79). -/
theorem enterDown_withChannel :
    enterDown (s.withChannel k c) = setAttenuation s.params.attMin
      ((supervisorDown s).withChannel k.entersDown (c.afterRaising
        ((if k.state = .up then Event.peerDown.flag else 0#21)
          ||| (if (supervisorDown s).link = s.link then 0#21 else Event.stateChanged.flag)))) := by
  have hchannel : raiseIf (decide (k.state = .up)) .peerDown ((s.withChannel k c).withPeer k.entersDown)
      = s.withChannel k.entersDown (c.afterRaising (if k.state = .up then Event.peerDown.flag else 0#21)) := by
    rw [raiseIf_eq_withControl]
    simp only [decide_eq_true_eq]
    rfl
  unfold enterDown
  rw [withChannel_peer, hchannel, supervisorDown_withChannel, afterRaising_afterRaising]
  rfl

end

end Sys2Proof.Machine
end

section
/-! PROOFS. Silence at the Peer Channel (R77): O39. -/

namespace Sys2Proof.Machine

theorem silenceStrobe_of_reached {s : State} (h : silenceReached s = true) :
    silenceStrobe s = setAttenuation s.params.attMin
      ((supervisorDown s).withChannel s.peer.entersDown (s.control.afterRaising
        ((if s.peer.state = .up then Event.peerDown.flag else 0#21)
          ||| (if (supervisorDown s).link = s.link then 0#21 else Event.stateChanged.flag)))) := by
  have hdown : s.peer.state ≠ .down := by simp only [silenceReached, Bool.and_eq_true, decide_eq_true_eq] at h; exact h.1
  simp only [silenceStrobe, hdown, if_false, h, if_true]
  exact enterDown_withChannel s { s.peer with silence := s.peer.silence + 1 } s.control

/-- Settles O39: in DOWN nothing, below the peer timeout the counter alone, and at the timeout entering DOWN. -/
theorem silenceTakesThePeerDown : Obligations.SilenceTakesThePeerDown := by
  intro s
  refine ⟨fun hdown => ?_, fun hstate hlt => ?_, fun hstate hreached => ?_⟩
  · simp [exec, execSilenceCount, execPeerTimeout, silenceStrobe, silenceReached, hdown]
  · have hnot : silenceReached s = false := by simp [silenceReached, hlt]
    simp [exec, execSilenceCount, execPeerTimeout, silenceStrobe, hstate, hnot]
    rfl
  · have hreached : silenceReached s = true := by simp [silenceReached, hstate, hreached]
    refine ⟨silenceStrobe s, by simp [exec, execPeerTimeout, hreached], rfl, ?_⟩
    rw [silenceStrobe_of_reached hreached]
    refine ⟨rfl, by simp, by simp, by simp, by simp, by simp [BitVec.or_comm], State.eq_of_blocks (by simp)⟩

end Sys2Proof.Machine
end

section
/-! SUPPORT. An arriving word (R70 to R79): its checks read from the bits of R72 and R73, the channel after acceptance in
the terms of the echo, and the report that carries the word. -/

namespace Sys2Proof.Machine

/-! ### Events that are pending and not yet reported (R172, R174) -/

/-- The event is pending and not in the reported set, as it is right after it was raised. -/
def ControlLink.Shows (k : ControlLink) (e : Event) : Prop :=
  k.events.has e = true ∧ ∀ x, k.reported = some x → x.has e = false

theorem ControlLink.shows_afterRaising (k : ControlLink) {x : EventSet} {e : Event} (h : x.has e = true) :
    (k.afterRaising x).Shows e := by
  refine ⟨by simp [EventSet.has_or, h], fun y hy => ?_⟩
  have hx : x ≠ 0#21 := by
    rintro rfl
    simp [EventSet.has] at h
  have hbit : e.bit < 21 := by cases e <;> decide
  simp only [ControlLink.afterRaising, if_neg hx, Option.map_eq_some_iff] at hy
  obtain ⟨r, -, rfl⟩ := hy
  rw [EventSet.has] at h
  simp [EventSet.has, h]

theorem shows_raise (e : Event) (s : State) : (raise e s).control.Shows e := by
  rw [raise_control]
  exact ControlLink.shows_afterRaising _ e.flag_has

/-- Events raised later leave it so. -/
theorem RaisesOnly.shows {s t : State} (h : RaisesOnly s t) {e : Event} (he : s.control.Shows e) :
    t.control.Shows e := by
  obtain ⟨x, hx⟩ := id h
  obtain ⟨hpending, hreported⟩ := he
  refine ⟨h.has hpending, fun y hy => ?_⟩
  rw [hx] at hy
  unfold ControlLink.afterRaising at hy
  split at hy
  · exact hreported y hy
  · obtain ⟨r, hr, rfl⟩ := Option.map_eq_some_iff.1 hy
    have := hreported r hr
    simp only [EventSet.has] at this
    simp [EventSet.has, this]

/-! ### The checks (R70 to R73) -/

/-- The identity check, bit by bit of the mask (R72). -/
theorem and_eq_and_iff {n : Nat} (x y mask : BitVec n) :
    x &&& mask = y &&& mask ↔ ∀ i, i < n → mask.getLsbD i = true → x.getLsbD i = y.getLsbD i := by
  constructor
  · intro h i _ hi
    have hbit := congrArg (fun z => z.getLsbD i) h
    simpa [hi] using hbit
  · intro h
    refine BitVec.eq_of_getLsbD_eq fun i hi => ?_
    cases hm : mask.getLsbD i with
    | false => simp [hm]
    | true => simp [hm, h i hi hm]

theorem identityPasses_iff (p : Params) (hop : BitVec 20) :
    identityPasses p hop = true ↔ hop &&& p.hopMask = p.peerHop &&& p.hopMask := by
  simp [identityPasses]

theorem not_identityPasses_iff (p : Params) (hop : BitVec 20) :
    identityPasses p hop = false ↔ hop &&& p.hopMask ≠ p.peerHop &&& p.hopMask := by
  simp [identityPasses]

theorem orderPasses_iff (k : PeerChannel) (m : Superframe) :
    orderPasses k m = true ↔ ∀ x, k.lastFar = some x → (m - x).toNat < 32768 ∧ m ≠ x := by
  cases h : k.lastFar <;> simp [orderPasses, h, isAfter_iff]

theorem wordIntact_iff (bytes : List Byte) :
    wordIntact bytes = true ↔ bytes.drop 12 = be16 (crc16 (bytes.take 12)) := by
  simp [wordIntact]

theorem checkOrder_of_offline {s : State} (m : Superframe) (w : OverheadWord) (hx : s.link = .offline) :
    checkOrder m w s = s := by
  simp [checkOrder, hx]

theorem checkOrder_of_duplicate {m : Superframe} {s : State} (w : OverheadWord) (hx : s.link ≠ .offline)
    (horder : orderPasses s.peer m = false) : checkOrder m w s = countDuplicate s := by
  simp [checkOrder, hx, horder]

theorem checkOrder_of_passes {m : Superframe} {s : State} (w : OverheadWord) (hx : s.link ≠ .offline)
    (horder : orderPasses s.peer m = true) : checkOrder m w s = acceptWord m w s := by
  simp [checkOrder, hx, horder]

theorem checkWord_of_damaged {bytes : List Byte} (m : Superframe) (s : State) (hcrc : wordIntact bytes = false) :
    checkWord m bytes s = countBadCrc s := by
  simp [checkWord, hcrc]

section

variable {m : Superframe} {bytes : List Byte} {w : OverheadWord} {s : State}
  (hparse : OverheadWord.parse bytes = some w)
include hparse

theorem checkWord_of_intact (hcrc : wordIntact bytes = true) : checkWord m bytes s = checkIdentity m w s := by
  simp [checkWord, hcrc, hparse]

theorem wordIsForeignSignal_of_intact (hcrc : wordIntact bytes = true) :
    wordIsForeignSignal bytes s = (!identityPasses s.params w.hopId && foreignReached s) := by
  simp [wordIsForeignSignal, hcrc, hparse]

theorem acceptableWord_of_checks (hcrc : wordIntact bytes = true) (hid : identityPasses s.params w.hopId = true)
    (hx : s.link ≠ .offline) (horder : orderPasses s.peer m = true) : acceptableWord m bytes s = some w := by
  simp [acceptableWord, hcrc, hparse, hid, hx, horder]

/-- A word that passes stages 1 to 3 is accepted, the foreign counter one lower (R70, R72). -/
theorem checkWord_of_checks (hcrc : wordIntact bytes = true) (hid : identityPasses s.params w.hopId = true)
    (hx : s.link ≠ .offline) (horder : orderPasses s.peer m = true) :
    checkWord m bytes s = acceptWord m w (passIdentity s) := by
  rw [checkWord_of_intact hparse hcrc, checkIdentity, if_pos hid]
  exact checkOrder_of_passes w (by simpa using hx) horder

end

/-! ### The channel after acceptance (R73 to R75) -/

/-- The channel that an accepted word leaves, where the echo check finds `x` and a channel in DOWN counts matches from 0. -/
theorem taken_eq (k : PeerChannel) (m : Superframe) (w : OverheadWord) {x : EchoFinding} {n : Nat}
    (hx : echoCheck k.ring w.echo = x) (hn : n = if k.state = .down then 0 else k.verify) :
    k.taken m w =
      { k with
        lastFar := some m
        fields := w.fields
        silence := 0
        mismatch := if x = .agrees then k.mismatch - 1
          else if x = .mismatch then (if k.mismatch < 3 then k.mismatch + 1 else 3) else k.mismatch
        verify := if k.state = .up then k.verify else if x = .agrees then n + 1 else if x = .mismatch then 0 else n
        state := if k.state = .up ∨ (x = .agrees ∧ 8 ≤ n + 1) then .up else .verifying
        counters :=
          { k.counters with
            wordsAccepted := k.counters.wordsAccepted + 1#32
            echoMismatches := k.counters.echoMismatches + (if x = .mismatch then 1#32 else 0#32) } } := by
  subst hn
  unfold PeerChannel.taken
  rw [hx]
  cases hs : k.state <;> cases x <;>
    simp [PeerChannel.updateState, PeerChannel.verifying, PeerChannel.countEcho, PeerChannel.accept, hs, succSat,
      Config.mismatchLimit, Config.verifyGoal]

/-- An echo fault is the third mismatch in UP (R75). -/
theorem echoFaults_iff (k : PeerChannel) (w : OverheadWord) :
    echoFaults k w = true ↔ k.state = .up ∧ echoCheck k.ring w.echo = .mismatch ∧ 2 ≤ k.mismatch := by
  have hreach : Config.mismatchLimit ≤ succSat Config.mismatchLimit k.mismatch ↔ 2 ≤ k.mismatch := by
    unfold succSat Config.mismatchLimit
    split <;> omega
  simp [echoFaults, hreach, and_assoc]

theorem acceptWord_of_no_fault {m : Superframe} {w : OverheadWord} {s : State} (h : echoFaults s.peer w = false) :
    acceptWord m w s = handOff w.fields
      (raiseIf (wordTakesUp s.peer m w) .peerUp (s.withPeer (s.peer.taken m w))) := by
  simp [acceptWord, h]

theorem acceptWord_peer {m : Superframe} {w : OverheadWord} {s : State} (h : echoFaults s.peer w = false) :
    (acceptWord m w s).peer = s.peer.taken m w := by
  simp [acceptWord_of_no_fault h]

/-- A word that takes the channel UP raises PEER_UP (R75). -/
theorem acceptWord_showsPeerUp {m : Superframe} {w : OverheadWord} {s : State} (h : echoFaults s.peer w = false)
    (hup : wordTakesUp s.peer m w = true) : (acceptWord m w s).control.Shows .peerUp := by
  rw [acceptWord_of_no_fault h, hup]
  exact (RaisesOnly.handOff _ _).shows (shows_raise .peerUp _)

/-! ### The report that carries the word (R23) -/

section

variable {l : Branch} {msg word : List Byte} {s : State} {r : Report} {h : Header}
  (hlocked : r.locked = true) (hheader : r.header = some h) (hword : r.word = some word)
include hlocked hheader hword

theorem handedWord_of_fields : r.handedWord = some (h.number, word) := by
  simp [Report.handedWord, Report.validHeader, hlocked, hheader, hword]

theorem handleReport_of_word :
    handleReport l r s = headerStep l r (checkWord h.number word (reportClassified l r s)) := by
  simp [handleReport, reportWorded, wordStep, handedWord_of_fields hlocked hheader hword]

end

/-- The monitor's own work keeps the link state, but that an overflow in PINNED unpins (R163). -/
theorem monitorReport_link (l : Branch) (r : Report) (s : State) :
    (monitorReport l r s).link = s.link ∨ (∃ p, s.link = .pinned p) ∧ (monitorReport l r s).link = .adaptive := by
  unfold monitorReport burstEffects overflowNotice supervisorOverflow
  (repeat' split) <;> simp_all

theorem reportClassified_link (l : Branch) (r : Report) (s : State) :
    (reportClassified l r s).link = s.link
      ∨ (∃ p, s.link = .pinned p) ∧ (reportClassified l r s).link = .adaptive := by
  simpa [reportClassified] using monitorReport_link l r s

theorem reportClassified_not_offline {l : Branch} {r : Report} {s : State} (hx : s.link ≠ .offline) :
    (reportClassified l r s).link ≠ .offline := by
  obtain h | ⟨-, h⟩ := reportClassified_link l r s <;> simp [h, hx]

end Sys2Proof.Machine
end

section
/-! PROOFS. The stages of an arriving word and its echo (R70 to R75): O36, O37. -/

namespace Sys2Proof.Machine

theorem exec_foreignSignal_of_arrival {l : Branch} {m : List Byte} {s : State} {r : Report}
    (hup : (s.modem.get l).up = true) (hr : receiveReport m = some r) :
    exec (.foreignSignal l m) s = .next (if reportForeignSignal s r then handleReport l r s else s) := by
  simp only [exec, execForeignSignal, reportWhen_of_arrival hup hr]

/-- A foreign word that takes the counter to the threshold (R72). -/
theorem foreignWord_of_reached {s : State} (h : foreignReached s = true) :
    foreignWord s = raise .foreignSignal (s.withPeer
      { s.peer with
        foreign := 0
        counters := { s.peer.counters with foreignWords := s.peer.counters.foreignWords + 1 } }) := by
  simp [foreignWord, h, raiseIf]

theorem foreignWord_of_not_reached {s : State} (h : foreignReached s = false) :
    foreignWord s = s.withPeer
      { s.peer with
        foreign := s.peer.foreign + 1
        counters := { s.peer.counters with foreignWords := s.peer.counters.foreignWords + 1 } } := by
  simp [foreignWord, h, raiseIf]

theorem foreignReached_iff (s : State) :
    foreignReached s = true ↔ s.params.foreignThreshold ≤ s.peer.foreign + 1 := by
  simp [foreignReached]

/-- A word that is not after *L* (R73, assumption 16). -/
theorem orderPasses_of_not_after {k : PeerChannel} {m : Superframe}
    (h : ∃ x, k.lastFar = some x ∧ (32768 ≤ (m - x).toNat ∨ m = x)) : orderPasses k m = false := by
  obtain ⟨x, hx, hnot⟩ := h
  rw [← Bool.not_eq_true, orderPasses_iff]
  intro hall
  obtain ⟨hlt, hne⟩ := hall x hx
  exact hnot.elim (by omega) hne

/-- Settles O36: the stages in order, and FOREIGN_SIGNAL as the report whose word takes the counter to the threshold. -/
theorem wordsPassTheirChecks : Obligations.WordsPassTheirChecks := by
  constructor
  · intro m bytes w s hparse
    rw [← wordIntact_iff]
    refine ⟨fun hcrc => checkWord_of_damaged m s 
      (Bool.eq_false_iff.2 fun e => hcrc ((wordIntact_iff bytes).1 e)), fun hcrc => ?_⟩
    rw [checkWord_of_intact hparse hcrc, checkIdentity]
    refine ⟨fun ⟨i, hi, hmask, hne⟩ => ?_, fun hall => ?_⟩
    · have hid : identityPasses s.params w.hopId = false := by
        rw [not_identityPasses_iff, ne_eq, and_eq_and_iff]
        exact fun hall => hne (hall i hi hmask)
      rw [if_neg (by simp [hid])]
      refine ⟨fun hlt => ?_, fun hreached => foreignWord_of_reached ((foreignReached_iff s).2 hreached)⟩
      exact foreignWord_of_not_reached (by simpa [foreignReached] using hlt)
    · have hid : identityPasses s.params w.hopId = true := by
        rw [identityPasses_iff, and_eq_and_iff]
        exact hall
      rw [if_pos hid]
      exact ⟨checkOrder_of_offline (s := passIdentity s) m w,
        fun hx hnot => checkOrder_of_duplicate (s := passIdentity s) w hx (orderPasses_of_not_after hnot),
        fun hx hafter => checkOrder_of_passes (s := passIdentity s) w hx ((orderPasses_iff _ m).2 hafter)⟩
  · intro l msg word s r h w hup hr hlocked hheader hword hcrc hparse
    rw [← wordIntact_iff] at hcrc
    rw [exec_foreignSignal_of_arrival hup hr, exec_branchReport_of_arrival hup hr, ← not_identityPasses_iff,
      ← identityPasses_iff, ← foreignReached_iff]
    have hsignal : reportForeignSignal s r = (!identityPasses s.params w.hopId && foreignReached s) := by
      rw [reportForeignSignal, handedWord_of_fields hlocked hheader hword, ← wordIsForeignSignal_of_intact hparse hcrc]
    refine ⟨fun hid hreached => ⟨handleReport l r s, by rw [hsignal, hid, hreached]; rfl, rfl, ?_⟩, fun hnot => ?_⟩
    · have hclassified : checkWord h.number word (reportClassified l r s) = foreignWord (reportClassified l r s) := by
        rw [checkWord_of_intact hparse hcrc]
        simp [checkIdentity, hid]
      have hforeign := foreignWord_of_reached (s := reportClassified l r s) (by simpa [foreignReached] using hreached)
      have hshows : (handleReport l r s).control.Shows .foreignSignal := by
        rw [handleReport_of_word hlocked hheader hword, hclassified, hforeign]
        exact (RaisesOnly.headerStep l r _).shows (shows_raise _ _)
      refine ⟨?_, hshows⟩
      rw [handleReport_of_word hlocked hheader hword, hclassified, hforeign]
      simp
    · have hnone : reportForeignSignal s r = false := by
        rw [hsignal]
        obtain hid | hlt := hnot
        · simp [hid]
        · simp [foreignReached, hlt]
      rw [hnone]
      rfl

/-- Settles O37: the finding of the echo check decides each field. -/
theorem acceptedWordsVerifyTheEcho : Obligations.AcceptedWordsVerifyTheEcho := by
  intro m w s hit miss n hhit hmiss hn hnofault
  have hagrees : hit = decide (echoCheck s.peer.ring w.echo = .agrees) := by
    rw [hhit]
    cases he : w.echo with
    | none => simp [echoCheck]
    | some x => by_cases hx : x ∈ s.peer.ring <;> simp [echoCheck, hx]
  have hmismatch : miss = decide (echoCheck s.peer.ring w.echo = .mismatch) := by
    rw [hmiss]
    cases he : w.echo with
    | none => simp [echoCheck]
    | some x => by_cases hx : x ∈ s.peer.ring <;> simp [echoCheck, hx]
  have hfault : echoFaults s.peer w = false := by
    rw [← Bool.not_eq_true, echoFaults_iff]
    simpa [hmismatch] using hnofault
  have htaken := taken_eq s.peer m w rfl hn
  rw [hagrees, hmismatch, acceptWord_peer hfault, htaken]
  refine ⟨by simp [OverheadWord.fields], fun hstate hx hn8 => (acceptWord_showsPeerUp hfault ?_).1⟩
  simp only [decide_eq_true_eq] at hx
  simp [wordTakesUp, htaken, hstate, hx, hn8]

end Sys2Proof.Machine
end

section
/-! PROOFS. PEER_UP and ECHO_FAULT (R75, R76): O38. -/

namespace Sys2Proof.Machine

theorem exec_peerUp_of_arrival {l : Branch} {m : List Byte} {s : State} {r : Report}
    (hup : (s.modem.get l).up = true) (hr : receiveReport m = some r) :
    exec (.peerUp l m) s = .next (if reportPeerUp s r then handleReport l r s else s) := by
  simp only [exec, execPeerUp, reportWhen_of_arrival hup hr]

theorem exec_echoFault_of_arrival {l : Branch} {m : List Byte} {s : State} {r : Report}
    (hup : (s.modem.get l).up = true) (hr : receiveReport m = some r) :
    exec (.echoFault l m) s = .next (if reportEchoFault s r then handleReport l r s else s) := by
  simp only [exec, execEchoFault, reportWhen_of_arrival hup hr]

/-- What both rows ask of a report but for the echo: its word passes stages 1 to 3, as the report finds the state. -/
structure CarriesWord (s : State) (r : Report) (h : Header) (word : List Byte) (w : OverheadWord) : Prop where
  locked : r.locked = true
  hasHeader : r.header = some h
  hasWord : r.word = some word
  parse : OverheadWord.parse word = some w
  intact : wordIntact word = true
  identity : identityPasses s.params w.hopId = true
  running : s.link ≠ .offline
  order : orderPasses s.peer h.number = true

namespace CarriesWord

variable {s : State} {r : Report} {h : Header} {word : List Byte} {w : OverheadWord}

theorem acceptable (c : CarriesWord s r h word w) : acceptableWord h.number word s = some w :=
  acceptableWord_of_checks c.parse c.intact c.identity c.running c.order

theorem reportPeerUp (c : CarriesWord s r h word w) : reportPeerUp s r = wordTakesUp s.peer h.number w := by
  simp [Machine.reportPeerUp, handedWord_of_fields c.locked c.hasHeader c.hasWord, c.acceptable]

theorem reportEchoFault (c : CarriesWord s r h word w) : reportEchoFault s r = echoFaults s.peer w := by
  simp [Machine.reportEchoFault, handedWord_of_fields c.locked c.hasHeader c.hasWord, c.acceptable]

/-- The report is its word's acceptance between the monitor's and the RAE's part of it. -/
theorem handleReport (c : CarriesWord s r h word w) (l : Branch) :
    handleReport l r s = headerStep l r (acceptWord h.number w (passIdentity (reportClassified l r s))) := by
  rw [handleReport_of_word c.locked c.hasHeader c.hasWord,
    checkWord_of_checks c.parse c.intact (by simpa using c.identity) (reportClassified_not_offline c.running)
      (by simpa using c.order)]

end CarriesWord

/-! ### The eighth match (R75, R160) -/

theorem compareInAcquire_link {s : State} {reason : WaitReason} (hx : s.link = .acquire reason) :
    (compareInAcquire reason s).link =
      if s.peer.fields.digest = some s.ladder.digest then .adaptive else .acquire .ladderMismatch := by
  by_cases hd : s.peer.fields.digest = some s.ladder.digest
  · simp [compareInAcquire, digestsEqual, hd]
  · by_cases hr : reason = .ladderMismatch
    · simp [compareInAcquire, digestsEqual, hd, hr, hx]
    · simp [compareInAcquire, digestsEqual, hd, hr, enterMismatch]

@[simp] theorem taken_fields (k : PeerChannel) (m : Superframe) (w : OverheadWord) :
    (k.taken m w).fields = w.fields := by
  rw [taken_eq k m w rfl rfl]

/-- With the channel UP, a word in ACQUIRE takes the link where its digest says. -/
theorem acceptWord_link_of_acquire {m : Superframe} {w : OverheadWord} {s : State} {reason : WaitReason}
    (hfault : echoFaults s.peer w = false) (hup : (s.peer.taken m w).state = .up) (hx : s.link = .acquire reason) :
    (acceptWord m w s).link =
      if w.digest = s.ladder.digest then .adaptive else .acquire .ladderMismatch := by
  have hlink : (acceptWord m w s).link
      = (supervisorHandOff (raiseIf (wordTakesUp s.peer m w) .peerUp (s.withPeer (s.peer.taken m w)))).link := by
    simp [acceptWord_of_no_fault hfault, handOff]
  rw [hlink, supervisorHandOff, if_pos (by simpa using hup)]
  simp only [raiseIf_frame, State.withPeer_link, hx]
  rw [compareInAcquire_link (by simpa using hx)]
  simp [OverheadWord.fields]

/-! ### The third mismatch (R75, R76) -/

theorem acceptWord_of_fault {m : Superframe} {w : OverheadWord} {s : State} (h : echoFaults s.peer w = true) :
    acceptWord m w s = setAttenuation s.params.attMin
      ((supervisorDown s).withChannel (s.peer.taken m w).entersDown (s.control.afterRaising
        (Event.echoFault.flag ||| (Event.peerDown.flag
          ||| (if (supervisorDown s).link = s.link then 0#21 else Event.stateChanged.flag))))) := by
  obtain ⟨hup, -⟩ := (echoFaults_iff _ _).1 h
  have hchannel : raise .echoFault (s.withPeer (s.peer.taken m w))
      = s.withChannel (s.peer.taken m w) (s.control.afterRaising Event.echoFault.flag) := raise_eq_withControl _ _
  rw [acceptWord, if_pos h, hchannel, enterDown_withChannel, afterRaising_afterRaising,
    if_pos (PeerChannel.taken_state_of_up hup m w)]

/-- The channel that the identity check leaves is not read by the DOWN notice. -/
theorem supervisorDown_passIdentity_withChannel (s : State) (k : PeerChannel) (c : ControlLink) :
    (supervisorDown (passIdentity s)).withChannel k c = (supervisorDown s).withChannel k c := by
  have hpass : passIdentity s = s.withChannel (passIdentity s).peer s.control := rfl
  rw [hpass, supervisorDown_withChannel]
  rfl

/-- A header only publishes (R111, R113). -/
theorem headerStep_alert (l : Branch) (r : Report) (s : State) :
    (headerStep l r s).capacity.alert = s.capacity.alert := by
  unfold headerStep raeHeader takeHeader
  (repeat' split) <;> simp [completeCommit, followHeader]

theorem supervisorDown_link_of_adapting {s : State} (hx : s.link.adapting = true) :
    (supervisorDown s).link = .acquire .peerDown := by
  obtain h | ⟨p, h⟩ := (LinkState.adapting_iff _).1 hx <;> simp [supervisorDown, h, changeLink]

theorem reportClassified_adapting {l : Branch} {r : Report} {s : State} (hx : s.link.adapting = true) :
    (reportClassified l r s).link.adapting = true := by
  obtain h | ⟨-, h⟩ := reportClassified_link l r s
  · rw [h, hx]
  · rw [h]
    rfl

/-- The channel that the word of a report finds: the identity check has moved the foreign counter alone. -/
theorem passIdentity_reportClassified_peer (l : Branch) (r : Report) (s : State) :
    (passIdentity (reportClassified l r s)).peer.state = s.peer.state
      ∧ (passIdentity (reportClassified l r s)).peer.verify = s.peer.verify
      ∧ (passIdentity (reportClassified l r s)).peer.mismatch = s.peer.mismatch
      ∧ (passIdentity (reportClassified l r s)).peer.ring = s.peer.ring
      ∧ (passIdentity (reportClassified l r s)).peer.nextChallenge = s.peer.nextChallenge := by
  simp [passIdentity]

/-- The channel after the eighth match. -/
theorem taken_of_eighthMatch {k : PeerChannel} (m : Superframe) {w : OverheadWord} (hstate : k.state = .verifying)
    (hverify : k.verify = 7) (hcheck : echoCheck k.ring w.echo = .agrees) :
    (k.taken m w).state = .up ∧ (k.taken m w).verify = 8 ∧ (k.taken m w).lastFar = some m := by
  rw [taken_eq k m w hcheck (n := 7) (by simp [hstate, hverify])]
  simp [hstate]

/-- An accepted word keeps the challenges (R73 to R75). -/
theorem taken_challenges (k : PeerChannel) (m : Superframe) (w : OverheadWord) :
    (k.taken m w).ring = k.ring ∧ (k.taken m w).nextChallenge = k.nextChallenge := by
  rw [taken_eq k m w rfl rfl]
  exact ⟨rfl, rfl⟩

/-- The report of an echo fault: the DOWN notice finds the state that the monitor and the classifier leave, for it does not
read the channel and the events that the word has changed before it. -/
theorem CarriesWord.handleReport_of_echoFault {s : State} {r : Report} {h : Header} {word : List Byte}
    {w : OverheadWord} (c : CarriesWord s r h word w) (l : Branch) (hfault : echoFaults s.peer w = true) :
    ∃ (k : PeerChannel) (x : EventSet), k.ring = s.peer.ring ∧ k.nextChallenge = s.peer.nextChallenge
      ∧ Machine.handleReport l r s = headerStep l r (setAttenuation s.params.attMin
        ((supervisorDown (reportClassified l r s)).withChannel k.entersDown
          ((reportClassified l r s).control.afterRaising
            (Event.echoFault.flag ||| (Event.peerDown.flag ||| x))))) := by
  obtain ⟨hkState, -, hkMismatch, hkRing, hkChallenge⟩ := passIdentity_reportClassified_peer l r s
  obtain ⟨hnewRing, hnewChallenge⟩ := taken_challenges (passIdentity (reportClassified l r s)).peer h.number w
  have hfault' : echoFaults (passIdentity (reportClassified l r s)).peer w = true := by
    rw [echoFaults_iff] at hfault ⊢
    rwa [hkState, hkRing, hkMismatch]
  have haccept := acceptWord_of_fault (m := h.number) hfault'
  have hparams : (passIdentity (reportClassified l r s)).params = s.params := by simp
  rw [supervisorDown_passIdentity_withChannel, hparams] at haccept
  exact ⟨_, _, hnewRing.trans hkRing, hnewChallenge.trans hkChallenge,
    (c.handleReport l).trans (congrArg (headerStep l r) haccept)⟩

/-- Settles O38: each row is the report of its word, carried through `CarriesWord.handleReport`. -/
theorem echoesMoveTheChannel : Obligations.EchoesMoveTheChannel := by
  constructor
  · intro l msg word s r h w x hup hr hlocked hheader hword hcrc hparse hid hx horder hstate hverify hecho hring
    have c : CarriesWord s r h word w := ⟨hlocked, hheader, hword, hparse, (wordIntact_iff _).2 hcrc,
      (identityPasses_iff ..).2 hid, hx, (orderPasses_iff ..).2 horder⟩
    have hcheck : echoCheck s.peer.ring w.echo = .agrees := by simp [echoCheck, hecho, hring]
    obtain ⟨hkState, hkVerify, -, hkRing, -⟩ := passIdentity_reportClassified_peer l r s
    have hfault : echoFaults (passIdentity (reportClassified l r s)).peer w = false := by
      simp [echoFaults, hkState, hstate]
    obtain ⟨hnewState, hnewVerify, hnewFar⟩ := taken_of_eighthMatch h.number (hkState.trans hstate)
      (hkVerify.trans hverify) (hkRing ▸ hcheck)
    have htakes : reportPeerUp s r = true := by
      rw [c.reportPeerUp]
      simp [wordTakesUp, hstate, (taken_of_eighthMatch h.number hstate hverify hcheck).1]
    have hshows := (RaisesOnly.headerStep l r _).shows
      (acceptWord_showsPeerUp (m := h.number) hfault (by simp [wordTakesUp, hkState, hstate, hnewState]))
    rw [exec_peerUp_of_arrival hup hr, exec_branchReport_of_arrival hup hr, if_pos htakes, c.handleReport]
    refine ⟨_, rfl, rfl, ?_, ?_, ?_, ?_, hshows.1, hshows.2, fun reason hacquire => ?_⟩
    · simpa [acceptWord_peer hfault] using hnewState
    · simpa [acceptWord_peer hfault] using hnewVerify
    · simpa [acceptWord_peer hfault] using hnewFar
    · simp [acceptWord_peer hfault, OverheadWord.fields]
    · have hlink : (reportClassified l r s).link = .acquire reason := by
        obtain e | ⟨⟨p, e⟩, -⟩ := reportClassified_link l r s
        · rw [e, hacquire]
        · rw [hacquire] at e
          cases e
      simpa using acceptWord_link_of_acquire hfault hnewState (by simpa using hlink)
  · intro l msg word s r h w x hup hr hlocked hheader hword hcrc hparse hid hx horder hstate hmismatch hecho hring
    have c : CarriesWord s r h word w := ⟨hlocked, hheader, hword, hparse, (wordIntact_iff _).2 hcrc,
      (identityPasses_iff ..).2 hid, hx, (orderPasses_iff ..).2 horder⟩
    have hcheck : echoCheck s.peer.ring w.echo = .mismatch := by simp [echoCheck, hecho, hring]
    have hfault : echoFaults s.peer w = true := (echoFaults_iff _ _).2 ⟨hstate, hcheck, hmismatch⟩
    obtain ⟨k, x, hkRing, hkChallenge, hreport⟩ := c.handleReport_of_echoFault l hfault
    have hpeer : (handleReport l r s).peer = k.entersDown := by simp [hreport]
    have hshows (e : Event) (he : EventSet.has (Event.echoFault.flag ||| Event.peerDown.flag) e = true) :
        (handleReport l r s).control.Shows e := by
      rw [hreport, ← BitVec.or_assoc]
      exact (RaisesOnly.headerStep l r _).shows
        (ControlLink.shows_afterRaising _ (by rw [EventSet.has_or, he, Bool.true_or]))
    obtain ⟨hecho, hechoNew⟩ := hshows .echoFault (by decide)
    obtain ⟨hdown, hdownNew⟩ := hshows .peerDown (by decide)
    rw [exec_echoFault_of_arrival hup hr, exec_branchReport_of_arrival hup hr, if_pos (c.reportEchoFault.trans hfault)]
    refine ⟨_, rfl, rfl, by rw [hpeer]; rfl, by rw [hpeer]; rfl, by rw [hpeer]; rfl, by rw [hpeer]; rfl,
      by rw [hpeer]; rfl, by rw [hpeer]; rfl, by rw [hpeer]; exact hkRing, by rw [hpeer]; exact hkChallenge, hecho,
      hdown, fun y hy => ⟨hechoNew y hy, hdownNew y hy⟩, ?_, by simp [hreport], fun hadapting => ?_⟩
    · rintro _ _ rfl rfl
      have hclassified : reportClassified l r s
          = fadeReport l ((monitorReport l r s).monitor.get l).snr (monitorReport l r s) := by
        simp [reportClassified, fadeSample, hlocked]
      rw [← hclassified, hreport, headerStep_alert]
      simp
    · simpa [hreport] using supervisorDown_link_of_adapting (reportClassified_adapting hadapting)

end Sys2Proof.Machine
end

section
/-! PROOFS. The hand-off of an accepted word and the commit that the RAE sees (R78, R107, R108): O40. -/

namespace Sys2Proof.Machine

/-- The RAE after a commit seen that is neither ignored nor held: the Receive Order names the commit's profile and its
switch superframe (R107 to R109). -/
theorem seeCommit_of_moving {s : State} {p : Nat} {n : Superframe} (hen : s.ladder.active.enabledAt p = true)
    (hheld : s.rae.commit ≠ some ⟨p, n⟩) (hpending : p = s.rae.e → s.rae.commit ≠ none) :
    seeCommit (some ⟨p, n⟩) s = publish (sendReceiveOrder (some n) p
      (s.withRae { s.rae with commit := if p = s.rae.e then none else some ⟨p, n⟩ })) := by
  by_cases he : p = s.rae.e
  · obtain ⟨k, hk⟩ := Option.ne_none_iff_exists'.1 (hpending he)
    have hne : ¬ k = ⟨p, n⟩ := fun e => hheld (by rw [hk, e])
    subst he
    simp [seeCommit, hen, hk, hne]
  · simp [seeCommit, hen, hheld, he]

/-- Each Modem Link that is UP takes the Receive Order at the end of its queue (R19, R109). -/
theorem sendReceiveOrder_get (start : Option Superframe) (p : Nat) (s : State) (l : Branch) :
    (sendReceiveOrder start p s).modem.get l =
      { s.modem.get l with
        waiting := if (s.modem.get l).up then (s.modem.get l).waiting ++ [receiveOrder start p s]
          else (s.modem.get l).waiting } := by
  rw [sendReceiveOrder, issueBoth_get, ModemLink.issue_eq]

theorem Ladder.enabledAt_iff (l : Ladder) (p : Nat) : l.enabledAt p = true ↔ p < l.count ∧ (l.slot p).enabled = true := by
  simp [Ladder.enabledAt]

/-- Settles O40: the hand-off is R78's order of the blocks, and each row of R107 is a branch of `seeCommit`. -/
theorem commitsAreSeen : Obligations.CommitsAreSeen := by
  refine ⟨fun m w s hnofault => ⟨_, rfl, ?_⟩, fun s => rfl, fun p n s => ?_⟩
  · have hfault : echoFaults s.peer w = false := by
      rw [← Bool.not_eq_true, echoFaults_iff]
      rintro ⟨hup, hcheck, hmismatch⟩
      refine hnofault ⟨hup, ?_, hmismatch⟩
      cases he : w.echo with
      | none => simp [echoCheck, he] at hcheck
      | some x => exact ⟨x, rfl, fun hx => by simp [echoCheck, he, hx] at hcheck⟩
    rw [acceptWord_peer hfault, acceptWord_of_no_fault hfault, raiseIf_eq_withControl]
    simp only [wordTakesUp, Bool.and_eq_true, decide_eq_true_eq]
    rfl
  · rw [← Ladder.enabledAt_iff]
    refine ⟨fun hen => ?_, fun hcount henabled => ?_⟩
    · have hen : s.ladder.active.enabledAt p = false := by simpa using hen
      simp only [seeCommit, hen, Bool.not_false, if_true]
      rfl
    · have hen := (Ladder.enabledAt_iff _ _).2 ⟨hcount, henabled⟩
      refine ⟨fun hheld => by simp [seeCommit, hen, hheld], fun he hnone => ?_, fun hheld hpending => ⟨_, rfl, ?_⟩⟩
      · subst he
        simp [seeCommit, hen, hnone]
      · rw [seeCommit_of_moving hen hheld hpending]
        refine ⟨by simp, fun l => ?_, by simp, publish_recordCurrent _, State.eq_of_blocks (by simp)⟩
        simp only [publish_frame, sendReceiveOrder_get]
        rfl

end Sys2Proof.Machine
end

section
/-! SUPPORT. Bytes read back (R182 to R189): bits of a byte as digits of its value, a sealed message opened, and the fields
of a Branch Report and of an overhead word read from the values of their bytes. -/

namespace Sys2Proof.Machine

/-! ### Bits and bytes -/

theorem getLsbD_eq_decide {n : Nat} (x : BitVec n) (i : Nat) : x.getLsbD i = decide (x.toNat / 2 ^ i % 2 = 1) := by
  rw [← BitVec.testBit_toNat, Nat.testBit_eq_decide_div_mod_eq]

theorem toNat_extractLsb' {n : Nat} (x : BitVec n) (k m : Nat) :
    (x.extractLsb' k m).toNat = x.toNat / 2 ^ k % 2 ^ m := by
  rw [BitVec.extractLsb'_toNat, Nat.shiftRight_eq_div_pow]

theorem toNat_byteOf (n : Nat) : (byteOf n).toNat = n % 256 := by simp [byteOf]

/-- The two bytes of a 16-bit value, joined again. -/
theorem append_of_be16 (v : BitVec 16) : (v.extractLsb' 8 8 ++ v.extractLsb' 0 8 : BitVec 16) = v := by
  apply BitVec.eq_of_toNat_eq
  have := v.isLt
  simp only [toNat_append_eq_add, toNat_extractLsb']
  omega

theorem eq_be16_iff (x y : Byte) (v : BitVec 16) : [x, y] = be16 v ↔ x ++ y = v := by
  constructor
  · intro h
    simp only [be16, List.cons.injEq, and_true] at h
    obtain ⟨rfl, rfl⟩ := h
    exact append_of_be16 v
  · rintro rfl
    have := y.isLt
    have hx : (x ++ y).extractLsb' 8 8 = x := BitVec.eq_of_toNat_eq (by
      have := x.isLt
      simp only [toNat_append_eq_add, toNat_extractLsb']
      omega)
    have hy : (x ++ y).extractLsb' 0 8 = y := BitVec.eq_of_toNat_eq (by
      simp only [toNat_append_eq_add, toNat_extractLsb']
      omega)
    rw [be16, hx, hy]

/-! ### Framing (R182, R183) -/

/-- A message of three bytes or more: its last two are the check value of those before. -/
theorem openMessage_cons (type : Byte) (body : List Byte) (h l : Byte) :
    openMessage (type :: (body ++ [h, l])) = if h ++ l = crc16 (type :: body) then some (type, body) else none := by
  have hlength : (type :: (body ++ [h, l])).length - 2 = (type :: body).length := by simp
  have hsplit : type :: (body ++ [h, l]) = (type :: body) ++ [h, l] := rfl
  rw [openMessage, hlength, hsplit, List.take_left, List.drop_left]
  simp only [eq_be16_iff]

@[simp] theorem openMessage_sealMessage (type : Byte) (body : List Byte) :
    openMessage (sealMessage type body) = some (type, body) := by
  have hseal : sealMessage type body = type :: (body ++ [(crc16 (type :: body)).extractLsb' 8 8,
    (crc16 (type :: body)).extractLsb' 0 8]) := rfl
  rw [hseal, openMessage_cons, if_pos (append_of_be16 _)]

theorem openMessage_of_short {m : List Byte} (h : m.length < 3) : openMessage m = none := by
  obtain _ | ⟨a, _ | ⟨b, _ | ⟨c, rest⟩⟩⟩ := m
  · rfl
  · rfl
  · rfl
  · simp only [List.length_cons] at h
    omega

/-! ### A Branch Report (R188) -/

/-- The fields of a Branch Report body, from the values of its bytes. -/
theorem Report.parse_cons (b0 b1 b2 b3 b4 b5 b6 b7 b8 : Byte) (word : List Byte) :
    Report.parse (b0 :: b1 :: b2 :: b3 :: b4 :: b5 :: b6 :: b7 :: b8 :: word) =
      if word.length = (if b0.toNat / 32 % 2 = 1 then 14 else 0) then
        some
          { locked := decide (b0.toNat / 128 = 1)
            rawSnr := 256 * (b0.toNat % 4) + b1.toNat
            rsl := if b2.toNat < 128 then 256 * b2.toNat + b3.toNat else 256 * b2.toNat + b3.toNat - 65536
            errored := 256 * b4.toNat + b5.toNat
            header := if b0.toNat / 64 % 2 = 1 then some ⟨b6 ++ b7, b8.toNat % 16⟩ else none
            word := if b0.toNat / 32 % 2 = 1 then some word else none }
      else none := by
  have hlocked : decide (b0.toNat / 128 % 2 = 1) = decide (b0.toNat / 128 = 1) := by
    have := b0.isLt
    exact decide_eq_decide.2 (by omega)
  have hraw : (b0.extractLsb' 0 2 ++ b1).toNat = 256 * (b0.toNat % 4) + b1.toNat := by
    simp only [toNat_append_eq_add, toNat_extractLsb']
    omega
  have hrsl : (b2 ++ b3).toInt
      = (if b2.toNat < 128 then 256 * b2.toNat + b3.toNat else 256 * b2.toNat + b3.toNat - 65536 : Int) := by
    have := b3.isLt
    rw [BitVec.toInt_eq_toNat_cond, toNat_append_eq_add]
    (repeat' split) <;> omega
  have herrored : (b4 ++ b5).toNat = 256 * b4.toNat + b5.toNat := by
    rw [toNat_append_eq_add]
    omega
  simp only [Report.parse, getLsbD_eq_decide, hlocked, hraw, hrsl, herrored, toNat_extractLsb', decide_eq_true_eq,
    Nat.pow_zero, Nat.div_one, Nat.reducePow]

theorem Report.parse_of_length {body : List Byte} (h : body.length ≠ 9 ∧ body.length ≠ 23) :
    Report.parse body = none := by
  unfold Report.parse
  split
  · rename_i word
    rw [if_neg]
    intro hword
    split at hword <;> simp [hword] at h
  · rfl

theorem receiveReport_sealMessage (body : List Byte) : receiveReport (sealMessage 0x01#8 body) = Report.parse body := by
  simp [receiveReport]

/-- The first byte of a Branch Report: its flags, and the high bits of the SNR. -/
theorem reportFlags_toNat (locked header word : Bool) (n : Nat) :
    (BitVec.ofBool locked ++ BitVec.ofBool header ++ BitVec.ofBool word ++ 0#3
        ++ (BitVec.ofNat 10 n).extractLsb' 8 2 : Byte).toNat
      = (if locked then 128 else 0) + (if header then 64 else 0) + (if word then 32 else 0) + n % 1024 / 256 := by
  simp only [toNat_append_eq_add, toNat_ofBool_eq, toNat_extractLsb', BitVec.toNat_ofNat]
  cases locked <;> cases header <;> cases word <;> simp <;> omega

/-- The flags and the SNR, read back from the value of the first byte. -/
theorem reportFlags_digits (locked header word : Bool) {n : Nat} (hn : n < 1024) {b : Nat}
    (hb : b = (if locked then 128 else 0) + (if header then 64 else 0) + (if word then 32 else 0) + n % 1024 / 256) :
    decide (b / 128 = 1) = locked ∧ (b / 64 % 2 = 1 ↔ header = true) ∧ (b / 32 % 2 = 1 ↔ word = true)
      ∧ 256 * (b % 4) + n % 256 = n := by
  subst hb
  cases locked <;> cases header <;> cases word <;> simp <;> omega

/-- A two's complement field of 16 bits, read back from the values of its bytes. -/
theorem twosComplement_of_bytes {x : Int} (hlow : -32768 ≤ x) (hhigh : x ≤ 32767) :
    (if ((BitVec.ofInt 16 x).extractLsb' 8 8).toNat < 128 then
        (256 * ((BitVec.ofInt 16 x).extractLsb' 8 8).toNat + ((BitVec.ofInt 16 x).extractLsb' 0 8).toNat : Int)
      else 256 * ((BitVec.ofInt 16 x).extractLsb' 8 8).toNat + ((BitVec.ofInt 16 x).extractLsb' 0 8).toNat - 65536)
      = x := by
  simp only [toNat_extractLsb', BitVec.toNat_ofInt]
  split <;> omega

theorem Report.message_eq (r : Report) :
    r.message = sealMessage 0x01#8
      ((BitVec.ofBool r.locked ++ BitVec.ofBool r.header.isSome ++ BitVec.ofBool r.word.isSome ++ 0#3
        ++ (BitVec.ofNat 10 r.rawSnr).extractLsb' 8 2 : Byte)
        :: (BitVec.ofNat 10 r.rawSnr).extractLsb' 0 8
        :: (BitVec.ofInt 16 r.rsl).extractLsb' 8 8 :: (BitVec.ofInt 16 r.rsl).extractLsb' 0 8
        :: (BitVec.ofNat 16 r.errored).extractLsb' 8 8 :: (BitVec.ofNat 16 r.errored).extractLsb' 0 8
        :: ((r.header.map (·.number)).getD 0#16).extractLsb' 8 8 :: ((r.header.map (·.number)).getD 0#16).extractLsb' 0 8
        :: (0#4 ++ BitVec.ofNat 4 ((r.header.map (·.profile)).getD 0)) :: r.word.getD []) := rfl

theorem receiveReport_message (r : Report) (hraw : r.rawSnr < 1024) (hlow : -32768 ≤ r.rsl) (hhigh : r.rsl ≤ 32767)
    (herrored : r.errored < 65536) (hheader : ∀ h ∈ r.header, h.profile < 16) (hword : ∀ w ∈ r.word, w.length = 14) :
    receiveReport r.message = some r := by
  obtain ⟨locked, raw, rsl, errored, header, word⟩ := r
  dsimp only at hraw hlow hhigh herrored hheader hword
  obtain ⟨hlocked, hhasHeader, hhasWord, hsnr⟩ := reportFlags_digits locked header.isSome word.isSome hraw rfl
  have hlow8 : ((BitVec.ofNat 10 raw).extractLsb' 0 8).toNat = raw % 256 := by
    simp only [toNat_extractLsb', BitVec.toNat_ofNat]
    omega
  have hcount : 256 * ((BitVec.ofNat 16 errored).extractLsb' 8 8).toNat
      + ((BitVec.ofNat 16 errored).extractLsb' 0 8).toNat = errored := by
    simp only [toNat_extractLsb', BitVec.toNat_ofNat]
    omega
  have hprofile (p : Nat) (hp : p < 16) : (0#4 ++ BitVec.ofNat 4 p : Byte).toNat % 16 = p := by
    simp only [toNat_append_eq_add, BitVec.toNat_ofNat]
    omega
  rw [Report.message_eq, receiveReport_sealMessage, Report.parse_cons, append_of_be16]
  dsimp only
  rw [reportFlags_toNat, hlocked, hlow8, hsnr, twosComplement_of_bytes hlow hhigh, hcount]
  simp only [hhasHeader, hhasWord]
  cases word with
  | none => cases header with
    | none => rfl
    | some h => simp [hprofile h.profile (hheader h rfl)]
  | some w => cases header with
    | none => simp [hword w rfl]
    | some h => simp [hprofile h.profile (hheader h rfl), hword w rfl]

/-! ### An overhead word (R186) -/

theorem RequestKind.ofCode_eq (c : BitVec 2) :
    RequestKind.ofCode c = match c.toNat with
      | 1 => .normal
      | 2 => .emergency
      | _ => .none := by
  revert c
  decide

theorem PowerRequest.ofCode_eq (c : BitVec 2) :
    PowerRequest.ofCode c = match c.toNat with
      | 0 => .hold
      | 1 => .raise
      | 2 => .lower
      | _ => .max := by
  revert c
  decide

/-- The fields of a 14-byte word, from the values of its bytes. -/
theorem OverheadWord.parse_bytes (b0 b1 b2 b3 b4 b5 b6 b7 b8 b9 b10 b11 b12 b13 : Byte) :
    OverheadWord.parse [b0, b1, b2, b3, b4, b5, b6, b7, b8, b9, b10, b11, b12, b13] = some
      { hopId := BitVec.ofNat 20 (4096 * b0.toNat + 16 * b1.toNat + b2.toNat / 16)
        adapt := decide (b2.toNat / 8 % 2 = 1)
        echo := if b2.toNat / 4 % 2 = 1 then some b3 else none
        commit := if b2.toNat / 2 % 2 = 1 then some ⟨b4.toNat / 16, b5 ++ b6⟩ else none
        challenge := b7
        request := ⟨b8.toNat / 16, match b8.toNat / 4 % 4 with
          | 1 => .normal
          | 2 => .emergency
          | _ => .none⟩
        power := match b8.toNat % 4 with
          | 0 => .hold
          | 1 => .raise
          | 2 => .lower
          | _ => .max
        txProfile := b4.toNat % 16
        headroom := min 80 (b9.toNat % 128)
        digest := b10 ++ b11 } := by
  have hhop : (b0 ++ b1 ++ b2.extractLsb' 4 4 : BitVec 20)
      = BitVec.ofNat 20 (4096 * b0.toNat + 16 * b1.toNat + b2.toNat / 16) := by
    apply BitVec.eq_of_toNat_eq
    have := b0.isLt
    have := b1.isLt
    have := b2.isLt
    simp only [toNat_append_eq_add, toNat_extractLsb', BitVec.toNat_ofNat]
    omega
  have hnibble (b : Byte) : b.toNat / 16 % 16 = b.toNat / 16 := by
    have := b.isLt
    omega
  simp only [OverheadWord.parse, hhop, getLsbD_eq_decide, toNat_extractLsb', RequestKind.ofCode_eq,
    PowerRequest.ofCode_eq, clampNat_eq, decide_eq_true_eq, Nat.pow_zero, Nat.div_one, Nat.reducePow, hnibble]

/-- The flags of byte 2, read back from its value. -/
theorem wordFlags_digits (adapt echo commit : Bool) {h : Nat} (hh : h < 16) {b : Nat}
    (hb : b = (16 * h + (if adapt then 8 else 0) + (if echo then 4 else 0) + (if commit then 2 else 0)) % 256) :
    b / 16 = h ∧ decide (b / 8 % 2 = 1) = adapt ∧ (b / 4 % 2 = 1 ↔ echo = true) ∧ (b / 2 % 2 = 1 ↔ commit = true) := by
  subst hb
  cases adapt <;> cases echo <;> cases commit <;> simp <;> omega

/-- The request's profile and kind and the power request, read back from the value of byte 8. -/
theorem wordRequest_digits {p k q : Nat} (hp : p < 16) (hk : k < 4) (hq : q < 4) {b : Nat}
    (hb : b = (16 * p + 4 * k + q) % 256) : b / 16 = p ∧ b / 4 % 4 = k ∧ b % 4 = q := by
  omega

theorem OverheadWord.body_length (w : OverheadWord) : w.body.length = 12 := rfl

theorem OverheadWord.bytes_length (w : OverheadWord) : w.bytes.length = 14 := rfl

theorem OverheadWord.bytes_intact (w : OverheadWord) : wordIntact w.bytes = true := by
  rw [wordIntact_iff, OverheadWord.bytes, List.drop_left' w.body_length, List.take_left' w.body_length]

/-- A word whose fields lie in the ranges of R69 is read back whole. -/
theorem OverheadWord.parse_of_bytes {w : OverheadWord} (hcommit : ∀ k ∈ w.commit, k.profile < 16)
    (hrequest : w.request.profile < 16) (htx : w.txProfile < 16) (hheadroom : w.headroom ≤ 80) :
    OverheadWord.parse w.bytes = some w := by
  have hprofile : (w.commit.map (·.profile)).getD 0 < 16 := by
    cases h : w.commit with
    | none => simp
    | some k => simpa using hcommit k h
  have hbody : w.bytes = _ := congrArg (· ++ be16 (crc16 w.body)) (w.body_eq htx hheadroom)
  obtain ⟨hhop, hadapt, hecho, hvalid⟩ := wordFlags_digits w.adapt w.echo.isSome w.commit.isSome
    (Nat.mod_lt w.hopId.toNat (show 0 < 16 by decide)) rfl
  obtain ⟨hasked, hkind, hpower⟩ := wordRequest_digits hrequest w.request.kind.code_lt w.power.code_lt rfl
  have hcommitProfile : (16 * (w.commit.map (·.profile)).getD 0 + w.txProfile) % 256 / 16
      = (w.commit.map (·.profile)).getD 0 := by omega
  have htxProfile : (16 * (w.commit.map (·.profile)).getD 0 + w.txProfile) % 256 % 16 = w.txProfile := by omega
  have hclamp : min 80 (w.headroom % 256 % 128) = w.headroom := by omega
  have hhopId : BitVec.ofNat 20
      (4096 * (w.hopId.toNat / 4096 % 256) + 16 * (w.hopId.toNat / 16 % 256) + w.hopId.toNat % 16) = w.hopId := by
    apply BitVec.eq_of_toNat_eq
    have := w.hopId.isLt
    rw [BitVec.toNat_ofNat]
    omega
  rw [hbody]
  simp only [be16, List.cons_append, List.nil_append]
  rw [OverheadWord.parse_bytes]
  simp only [toNat_byteOf, append_of_be16, hadapt, hecho, hvalid, hasked, hkind, hpower, hcommitProfile, htxProfile,
    hclamp, hhop, hhopId]
  obtain ⟨hop, adapt, echo, commit, challenge, ⟨p, kind⟩, power, tx, headroom, digest⟩ := w
  have hkindBack : RequestKind.ofCode (BitVec.ofNat 2 kind.code) = kind := by cases kind <;> rfl
  have hpowerBack : PowerRequest.ofCode (BitVec.ofNat 2 power.code) = power := by cases power <;> rfl
  rw [RequestKind.ofCode_eq, BitVec.toNat_ofNat, Nat.mod_eq_of_lt kind.code_lt] at hkindBack
  rw [PowerRequest.ofCode_eq, BitVec.toNat_ofNat, Nat.mod_eq_of_lt power.code_lt] at hpowerBack
  simp only [hkindBack, hpowerBack]
  cases echo <;> cases commit <;> rfl

end Sys2Proof.Machine
end

section
/-! PROOFS. Overhead words and incoming messages (R69, R182 to R189): O8. -/

namespace Sys2Proof.Machine

/-- A message that fails the frame check reaches no block (R183). -/
theorem receive_of_discarded {m : List Byte} (h : openMessage m = none) :
    receiveReport m = none ∧ receiveSlotRequest .a m = none ∧ receiveCapacityRead m = false
      ∧ receiveDrainReady m = none := by
  simp [receiveReport, receiveSlotRequest, receiveCapacityRead, receiveDrainReady, h]

section

variable {type : Byte} {body : List Byte}

theorem receiveReport_of_wrong (h : type ≠ 0x01#8 ∨ (body.length ≠ 9 ∧ body.length ≠ 23)) :
    receiveReport (sealMessage type body) = none := by
  by_cases htype : type = 0x01#8
  · subst htype
    rw [receiveReport_sealMessage, Report.parse_of_length (h.resolve_left (by simp))]
  · simp [receiveReport, htype]

theorem receiveSlotRequest_of_wrong (h : type ≠ 0x02#8 ∨ body.length ≠ 2) :
    receiveSlotRequest .a (sealMessage type body) = none := by
  obtain _ | ⟨x, _ | ⟨y, _ | ⟨z, rest⟩⟩⟩ := body <;> simp_all [receiveSlotRequest]

theorem receiveCapacityRead_of_wrong (h : type ≠ 0x21#8 ∨ body.length ≠ 0) :
    receiveCapacityRead (sealMessage type body) = false := by
  obtain _ | ⟨x, rest⟩ := body <;> simp_all [receiveCapacityRead]

theorem receiveDrainReady_of_wrong (h : type ≠ 0x22#8 ∨ body.length ≠ 1) :
    receiveDrainReady (sealMessage type body) = none := by
  obtain _ | ⟨x, _ | ⟨y, rest⟩⟩ := body <;> simp_all [receiveDrainReady]

end

theorem receiveSlotRequest_sealMessage (b0 b1 : Byte) :
    receiveSlotRequest .a (sealMessage 0x02#8 [b0, b1]) = some (b0 ++ b1) := by
  simp [receiveSlotRequest]

/-- The spare bits of a DRAIN READY are ignored (R185, R189). -/
theorem receiveDrainReady_sealMessage (b0 : Byte) :
    receiveDrainReady (sealMessage 0x22#8 [b0]) = some (BitVec.ofNat 4 b0.toNat) := by
  have hlow : b0.extractLsb' 0 4 = BitVec.ofNat 4 b0.toNat := by
    apply BitVec.eq_of_toNat_eq
    simp only [toNat_extractLsb', BitVec.toNat_ofNat]
    omega
  simp [receiveDrainReady, hlow]

theorem receiveDrainReady_message (p : BitVec 4) : receiveDrainReady (drainReadyMessage p) = some p := by
  rw [drainReadyMessage, receiveDrainReady_sealMessage]
  refine congrArg some (BitVec.eq_of_toNat_eq ?_)
  have := p.isLt
  simp only [toNat_append_eq_add, BitVec.toNat_ofNat]
  omega

/-- Settles O8: the round trips, what is discarded, and the fields from the values of the bytes. -/
theorem messagesRoundTrip : Obligations.MessagesRoundTrip := by
  refine ⟨fun w hcommit hrequest htx hheadroom => ⟨w.bytes_length, w.bytes_intact,
    OverheadWord.parse_of_bytes hcommit hrequest htx hheadroom⟩, ⟨receiveReport_message, fun n => ?_, fun m => rfl,
    receiveDrainReady_message, ?_, fun m => openMessage_of_short, fun type body h l hne => ?_⟩,
    fun m => receive_of_discarded, fun type body => ⟨openMessage_sealMessage type body, receiveReport_of_wrong,
      receiveSlotRequest_of_wrong, receiveCapacityRead_of_wrong, receiveDrainReady_of_wrong⟩, ?_,
    receiveSlotRequest_sealMessage, receiveDrainReady_sealMessage, OverheadWord.parse_bytes⟩
  · exact (receiveSlotRequest_sealMessage _ _).trans (congrArg some (append_of_be16 n))
  · simp [receiveCapacityRead, capacityReadMessage]
  · rw [openMessage_cons, if_neg hne]
  · rintro b0 b1 b2 b3 b4 b5 b6 b7 b8 word _ rfl
    rw [receiveReport_sealMessage, Report.parse_cons]
    refine ⟨fun hwrong => if_neg fun hlength => ?_, fun hright => if_pos ?_⟩
    · obtain ⟨hflag, hne⟩ | ⟨hflag, hne⟩ := hwrong
      · exact hne (by simpa [hflag] using hlength)
      · exact hne (by simpa [hflag] using hlength)
    · obtain ⟨hflag, hword⟩ | ⟨hflag, hword⟩ := hright
      · simp [hflag, hword]
      · simp [hflag, hword]

end Sys2Proof.Machine
end

section
/-! SUPPORT. The laws that O60 carries from step to step. Its premise does not hold the ranges of the engines' counts, on
which the lemmas of O59 rest, so that each engine's laws stand here without them (`Tae.Fits`, `Rae.Fits`) and are tied to
the newest Capacity Record in `State.Recorded` and `State.Consistent`. -/

namespace Sys2Proof.Machine

/-! ### The engines under a link state -/

/-- The laws of the TAE on ladder `l` under link state `x`, so that they can be said of a link state to come. -/
structure Tae.Fits (x : LinkState) (l : Ladder) (t : Tae) : Prop where
  profile : x ≠ .offline → l.enabledAt t.c = true
  atRest : x = .offline → t.c = 0 ∧ t.state = .steady
  slot : t.c ≠ 0 ∨ t.state ≠ .steady → t.lastSlot.isSome
  drain : ∀ d ∈ t.state.drain?, d.target < t.c ∧ l.enabledAt d.target = true ∧ x.adapting = true ∧ d.timer < d.limit
  commit : ∀ k ∈ t.commit?, k.profile ≠ t.c ∧ l.enabledAt k.profile = true
    ∧ t.lastSlot.all (fun n => isAfter k.switch n || decide ((n - k.switch).toNat = 32768)) = true

theorem taeFits_iff (s : State) : s.tae.Fits s.link s.ladder.active ↔ s.TaeLawful :=
  ⟨fun ⟨hprofile, hrest, hslot, hdrain, hcommit⟩ => ⟨hprofile, hrest, hslot, hdrain, hcommit⟩,
    fun ⟨hprofile, hrest, hslot, hdrain, hcommit⟩ => ⟨hprofile, hrest, hslot, hdrain, hcommit⟩⟩

namespace Tae.Fits

variable {x y : LinkState} {l : Ladder} {t u : Tae}

/-- The laws read the current profile, the state and the last slot number alone. -/
theorem congr (h : t.Fits x l) (heq : u.c = t.c ∧ u.state = t.state ∧ u.lastSlot = t.lastSlot) : u.Fits x l := by
  obtain ⟨hc, hstate, hlast⟩ := heq
  have hcommit : u.commit? = t.commit? := by simp only [Tae.commit?, hstate]
  refine ⟨?_, ?_, ?_, ?_, ?_⟩
  · rw [hc]; exact h.profile
  · rw [hc, hstate]; exact h.atRest
  · rw [hc, hstate, hlast]; exact h.slot
  · rw [hc, hstate]; exact h.drain
  · rw [hc, hcommit, hlast]; exact h.commit

/-- Outside OFFLINE only a drain depends on the link state. -/
theorem inRunning (h : t.Fits y l) (hy : y ≠ .offline) (hx : x ≠ .offline)
    (hdrain : x.adapting = true ∨ t.state.drain? = none) : t.Fits x l := by
  refine ⟨fun _ => h.profile hy, fun e => absurd e hx, h.slot, fun d hd => ?_, h.commit⟩
  obtain ⟨hlt, hen, -, htimer⟩ := h.drain d hd
  refine ⟨hlt, hen, hdrain.resolve_right fun hnone => ?_, htimer⟩
  rw [hnone] at hd
  cases hd

theorem noDrain (h : t.Fits x l) (hx : x.adapting = false) : t.state.drain? = none := by
  cases hd : t.state.drain? with
  | none => rfl
  | some d =>
    obtain ⟨-, -, hadapting, -⟩ := h.drain d hd
    rw [hx] at hadapting
    cases hadapting

/-- No drain goes below profile 0. -/
theorem noDrain_of_zero (h : t.Fits x l) (hc : t.c = 0) : t.state.drain? = none := by
  cases hd : t.state.drain? with
  | none => rfl
  | some d =>
    obtain ⟨hlt, -⟩ := h.drain d hd
    omega

theorem of_draining (h : t.Fits x l) {d timer limit : Nat} (hs : t.state = .draining d timer limit) :
    d < t.c ∧ l.enabledAt d = true ∧ x.adapting = true ∧ timer < limit ∧ t.lastSlot.isSome = true := by
  obtain ⟨hlt, hen, hadapting, htimer⟩ := h.drain ⟨d, timer, limit⟩ (by simp [hs, TaeState.drain?])
  exact ⟨hlt, hen, hadapting, htimer, h.slot (.inr (by simp [hs]))⟩

/-- The drain or the commit ends. -/
theorem steady (h : t.Fits y l) (hy : y ≠ .offline) (hx : x ≠ .offline) :
    Tae.Fits x l { t with state := .steady } :=
  ⟨fun _ => h.profile hy, fun e => absurd e hx, fun e => h.slot (.inl (e.resolve_right fun ne => ne rfl)),
    by simp [TaeState.drain?], by simp [Tae.commit?]⟩

/-- A commit to another enabled entry, with *n*_last set (R129). -/
theorem committed (h : t.Fits y l) (hy : y ≠ .offline) (hx : x ≠ .offline) {n : Superframe} (hn : t.lastSlot = some n)
    {p lead : Nat} (hp : l.enabledAt p = true) (hne : p ≠ t.c) (hlead : LeadInRange lead) (k : TaeCounters) :
    Tae.Fits x l { t with state := .committed ⟨p, plusLead n lead⟩, counters := k } := by
  refine ⟨fun _ => h.profile hy, fun e => absurd e hx, fun _ => by simp [hn], by simp [TaeState.drain?], ?_⟩
  simp only [Tae.commit?, Option.mem_def, Option.some.injEq, forall_eq', hn, Option.all_some]
  exact ⟨hne, hp, (not_due_iff _ _).2 (not_due_plusLead n hlead.1 hlead.2)⟩

/-- A drain starts, goes on or gets a deeper target (R126, R127, R131). -/
theorem drains (h : t.Fits x l) (hx : x.adapting = true) {d timer limit : Nat} (hlt : d < t.c)
    (hen : l.enabledAt d = true) (hslot : t.lastSlot.isSome = true) (htimer : timer < limit) :
    Tae.Fits x l { t with state := .draining d timer limit } := by
  have hrun := LinkState.not_offline_of_adapting hx
  refine ⟨fun _ => h.profile hrun, fun e => absurd e hrun, fun _ => hslot, ?_, by simp [Tae.commit?]⟩
  simpa [TaeState.drain?] using ⟨hlt, hen, hx, htimer⟩

/-- At rest on the reference entry. -/
theorem of_rest (hzero : x ≠ .offline → l.enabledAt 0 = true) (hc : t.c = 0) (hstate : t.state = .steady) :
    t.Fits x l :=
  ⟨fun hx => hc.symm ▸ hzero hx, fun _ => ⟨hc, hstate⟩, fun e => absurd hstate (e.resolve_left fun ne => ne hc),
    by simp [hstate, TaeState.drain?], by simp [hstate, Tae.commit?]⟩

/-- A completed switch to an enabled entry (R122). -/
theorem completed (hx : x ≠ .offline) {q : Nat} (hq : l.enabledAt q = true)
    (hslot : t.lastSlot.isSome = true) (k : TaeCounters) :
    Tae.Fits x l { t with c := q, state := .steady, counters := k } :=
  ⟨fun _ => hq, fun e => absurd e hx, fun _ => hslot, by simp [TaeState.drain?], by simp [Tae.commit?]⟩

end Tae.Fits

/-- The laws of the RAE on ladder `l` under link state `x`. -/
structure Rae.Fits (x : LinkState) (l : Ladder) (r : Rae) : Prop where
  profile : x ≠ .offline → l.enabledAt r.e = true
  commit : ∀ k ∈ r.commit, k.profile ≠ r.e ∧ l.enabledAt k.profile = true
  atRest : x = .offline → r.commit = none

theorem raeFits_iff (s : State) : s.rae.Fits s.link s.ladder.active ↔ s.RaeLawful :=
  ⟨fun ⟨hprofile, hcommit, hrest⟩ => ⟨hprofile, hcommit, hrest⟩,
    fun ⟨hprofile, hcommit, hrest⟩ => ⟨hprofile, hcommit, hrest⟩⟩

namespace Rae.Fits

variable {x y : LinkState} {l : Ladder} {r u : Rae}

/-- The laws read the expected profile and the pending commit alone. -/
theorem congr (h : r.Fits x l) (heq : u.e = r.e ∧ u.commit = r.commit) : u.Fits x l := by
  obtain ⟨he, hcommit⟩ := heq
  refine ⟨?_, ?_, ?_⟩
  · rw [he]; exact h.profile
  · rw [he, hcommit]; exact h.commit
  · rw [hcommit]; exact h.atRest

theorem inRunning (h : r.Fits y l) (hy : y ≠ .offline) (hx : x ≠ .offline) : r.Fits x l :=
  ⟨fun _ => h.profile hy, h.commit, fun e => absurd e hx⟩

/-- With no commit pending only *e* is left to ask for. -/
theorem of_no_commit (he : x ≠ .offline → l.enabledAt r.e = true) (hcommit : r.commit = none) : r.Fits x l :=
  ⟨he, by simp [hcommit], fun _ => hcommit⟩

end Rae.Fits

/-! ### The whole state -/

/-- Ladder, parameters and channel are lawful, and both engines fit the active ladder and the link state. -/
structure State.EnginesFit (s : State) : Prop where
  ladder : s.ladder.Lawful
  params : s.params.Lawful
  peer : s.peer.Lawful
  rae : s.rae.Fits s.link s.ladder.active
  tae : s.tae.Fits s.link s.ladder.active

/-- The engines fit, and the newest record shows them. -/
structure State.Recorded (s : State) : Prop where
  fit : s.EnginesFit
  record : s.RecordCurrent

/-- The premise and the conclusion of O60 (`consistent_iff`): the link state fits too. -/
structure State.Consistent (s : State) : Prop where
  recorded : s.Recorded
  link : s.LinkLawful

theorem consistent_iff (s : State) : s.Consistent ↔ s.EnginesLawful ∧ s.RecordCurrent := by
  constructor
  · rintro ⟨⟨⟨hladder, hparams, hpeer, hrae, htae⟩, hrecord⟩, hlink⟩
    exact ⟨⟨hladder, hparams, hpeer, hlink, (raeFits_iff s).1 hrae, (taeFits_iff s).1 htae⟩, hrecord⟩
  · rintro ⟨⟨hladder, hparams, hpeer, hlink, hrae, htae⟩, hrecord⟩
    exact ⟨⟨⟨hladder, hparams, hpeer, (raeFits_iff s).2 hrae, (taeFits_iff s).2 htae⟩, hrecord⟩, hlink⟩

/-- What the laws read of the engines is the same in both states. -/
@[simp] def KeepsEngines (s t : State) : Prop :=
  (t.rae.e = s.rae.e ∧ t.rae.commit = s.rae.commit)
    ∧ (t.tae.c = s.tae.c ∧ t.tae.state = s.tae.state ∧ t.tae.lastSlot = s.tae.lastSlot)

/-- The newest record and its generation are the same in both states. -/
@[simp] def KeepsNewest (s t : State) : Prop :=
  t.capacity.buffer t.capacity.newest = s.capacity.buffer s.capacity.newest
    ∧ t.capacity.generation = s.capacity.generation

/-- Nothing has changed that the laws or a record would show. -/
@[simp] def KeepsShown (s t : State) : Prop := KeepsFrame s t ∧ KeepsEngines s t ∧ KeepsNewest s t

/-- A record shows no more than these values of a state (R143). -/
theorem recordNow_congr {s t : State} (hladder : t.ladder.active = s.ladder.active) (hlink : t.link = s.link)
    (hrae : t.rae.e = s.rae.e ∧ t.rae.commit = s.rae.commit) (htae : t.tae.c = s.tae.c ∧ t.tae.state = s.tae.state)
    (g : BitVec 16) : recordNow g t = recordNow g s := by
  obtain ⟨he, hcommit⟩ := hrae
  obtain ⟨hc, hstate⟩ := htae
  have hcapacity (p : Nat) : shownCapacity t p = shownCapacity s p := by simp only [shownCapacity, hlink, hladder]
  simp only [recordNow, txPending, rxPending, hcapacity, hlink, he, hcommit, hc, hstate]

theorem recordCurrent_congr {s t : State} (h : s.RecordCurrent) (hshown : ∀ g, recordNow g t = recordNow g s)
    (hnewest : KeepsNewest s t) : t.RecordCurrent := by
  obtain ⟨hbuffer, hgeneration⟩ := hnewest
  unfold State.RecordCurrent at h ⊢
  rw [hbuffer, hgeneration, hshown, h]

namespace State.EnginesFit

variable {s t : State} {y : LinkState}

theorem congr (h : s.EnginesFit) (hframe : KeepsFrame s t) (hengines : KeepsEngines s t) : t.EnginesFit := by
  obtain ⟨hladder, hparams, hpeer, hlink⟩ := hframe
  obtain ⟨hrae, htae⟩ := hengines
  refine ⟨hladder ▸ h.ladder, hparams ▸ h.params, hpeer ▸ h.peer, ?_, ?_⟩
  · rw [hlink, hladder]; exact h.rae.congr hrae
  · rw [hlink, hladder]; exact h.tae.congr htae

/-- A publication shows whatever fits. -/
theorem published (h : s.EnginesFit) : (publish s).Recorded :=
  ⟨h.congr (by simp [KeepsFrame]) (by simp), publish_recordCurrent s⟩

theorem onRae (h : s.EnginesFit) (hframe : KeepsFrame s t) (htae : t.tae = s.tae)
    (hrae : t.rae.Fits s.link s.ladder.active) : t.EnginesFit :=
  State.EnginesFit.congr (s := s.withRae t.rae) ⟨h.ladder, h.params, h.peer, hrae, h.tae⟩ hframe
    (by simp [htae])

/-- A change of the TAE under a link state `y` that has just been left, or is `s.link` itself. -/
theorem onTae (h : (s.withLink y).EnginesFit) (hy : y ≠ .offline) (hx : s.link ≠ .offline) (hframe : KeepsFrame s t)
    (hrae : t.rae = s.rae) (htae : t.tae.Fits s.link s.ladder.active) : t.EnginesFit :=
  State.EnginesFit.congr (s := s.withTae t.tae) ⟨h.ladder, h.params, h.peer, h.rae.inRunning hy hx, htae⟩ hframe
    (by simp [hrae])

/-- Outside OFFLINE the active ladder is not empty, for *e* is on it. -/
theorem count (h : s.EnginesFit) (hx : s.link ≠ .offline) : s.ladder.active.count ≠ 0 := by
  have he := (Ladder.enabledAt_iff _ _).1 (h.rae.profile hx)
  omega

theorem zero (h : s.EnginesFit) (hx : s.link ≠ .offline) : s.ladder.active.enabledAt 0 = true :=
  h.ladder.enabledAt_zero (h.count hx)

end State.EnginesFit

namespace State.Recorded

variable {s t : State}

theorem congr (h : s.Recorded) (hkept : KeepsShown s t) : t.Recorded := by
  obtain ⟨hframe, hengines, hnewest⟩ := hkept
  refine ⟨h.fit.congr hframe hengines, recordCurrent_congr h.record ?_ hnewest⟩
  obtain ⟨hladder, -, -, hlink⟩ := hframe
  obtain ⟨hrae, hc, hstate, -⟩ := hengines
  exact recordNow_congr (by rw [hladder]) hlink hrae ⟨hc, hstate⟩

/-- In ACQUIRE and FIXED nothing more is asked of the link. -/
theorem inHolding (h : s.Recorded) (hx : s.link.holding = true) : s.Consistent := by
  obtain ⟨hrun, hadapting, hpin⟩ := LinkState.of_holding hx
  exact ⟨h, by simp [hadapting], by simp [hpin], fun e => absurd e hrun, h.fit.count⟩

/-- In adaptive operation the channel is UP with equal digests, and the pin profile is enabled. -/
theorem inAdapting (h : s.Recorded) (hx : s.link.adapting = true) (hup : s.peer.state = .up)
    (hdigest : s.peer.fields.digest = some s.ladder.digest)
    (hpin : ∀ p ∈ s.link.pin?, s.ladder.active.enabledAt p = true) : s.Consistent :=
  ⟨h, fun _ => ⟨hup, hdigest⟩, hpin, fun e => absurd e (LinkState.not_offline_of_adapting hx), h.fit.count⟩

/-- In OFFLINE the channel is DOWN. -/
theorem inOffline (h : s.Recorded) (hx : s.link = .offline) (hdown : s.peer.state = .down) : s.Consistent :=
  ⟨h, by simp [hx, LinkState.adapting], by simp [hx, LinkState.pin?], fun _ => hdown, fun e => absurd hx e⟩

end State.Recorded

namespace State.Consistent

variable {s t : State}

theorem fit (h : s.Consistent) : s.EnginesFit := h.recorded.fit

/-- The engines move and are recorded; the link state stays. -/
theorem move (h : s.Consistent) (hframe : KeepsFrame s t) (ht : t.Recorded) : t.Consistent := by
  obtain ⟨hladder, -, hpeer, hlink⟩ := hframe
  refine ⟨ht, ?_⟩
  have hlaw := h.link
  unfold State.LinkLawful at hlaw ⊢
  rwa [hladder, hpeer, hlink]

theorem congr (h : s.Consistent) (hkept : KeepsShown s t) : t.Consistent :=
  h.move hkept.1 (h.recorded.congr hkept)

/-- A change of the channel that keeps its state and the peer fields. -/
theorem withPeer (h : s.Consistent) {k : PeerChannel} (hk : k.Lawful) (hstate : k.state = s.peer.state)
    (hfields : k.fields = s.peer.fields) : (s.withPeer k).Consistent := by
  refine ⟨⟨⟨h.fit.ladder, h.fit.params, hk, h.fit.rae, h.fit.tae⟩, h.recorded.record⟩, ?_⟩
  have hlaw := h.link
  unfold State.LinkLawful at hlaw ⊢
  simpa [hstate, hfields] using hlaw

theorem withParams (h : s.Consistent) {p : Params} (hp : p.Lawful) : (s.withParams p).Consistent :=
  ⟨⟨⟨h.fit.ladder, hp, h.fit.peer, h.fit.rae, h.fit.tae⟩, h.recorded.record⟩, h.link⟩

/-- A change of the ladder's edit copy. -/
theorem withEdit (h : s.Consistent) {e : Ladder} (he : e.Lawful) :
    (s.withLadder { s.ladder with edit := e }).Consistent :=
  ⟨⟨⟨ProfileLadder.withEdit_lawful h.fit.ladder he, h.fit.params, h.fit.peer, h.fit.rae, h.fit.tae⟩,
    h.recorded.record⟩, h.link⟩

theorem ite (h : s.Consistent) (ht : t.Consistent) (b : Prop) [Decidable b] : (if b then t else s).Consistent := by
  split
  · exact ht
  · exact h

theorem adapting (h : s.Consistent) (hx : s.link.adapting = true) :
    s.peer.state = .up ∧ s.peer.fields.digest = some s.ladder.digest := by
  obtain ⟨hadapting, -⟩ := h.link
  exact hadapting hx

theorem pin (h : s.Consistent) : ∀ p ∈ s.link.pin?, s.ladder.active.enabledAt p = true := by
  obtain ⟨-, hpin, -⟩ := h.link
  exact hpin

theorem offline (h : s.Consistent) (hx : s.link = .offline) : s.peer.state = .down := by
  obtain ⟨-, -, hoffline, -⟩ := h.link
  exact hoffline hx

end State.Consistent

end Sys2Proof.Machine
end

section
/-! SUPPORT. The engines' own operations (chapters 6 and 7) keep their laws and the newest record, in the order of
Transmit.lean and Receive.lean: each changes nothing that a record shows, or ends in a publication. -/

namespace Sys2Proof.Machine

/-! ### Replies, alerts and reads write no record (R145 to R151) -/

@[simp] theorem reply_newest (r : Reply) (s : State) :
    (reply r s).capacity.buffer (reply r s).capacity.newest = s.capacity.buffer s.capacity.newest
      ∧ (reply r s).capacity.generation = s.capacity.generation := by
  obtain ⟨-, h⟩ | ⟨-, h⟩ := reply_cases r s <;> rw [h]
  · exact ⟨rfl, rfl⟩
  · exact ⟨rfl, rfl⟩

@[simp] theorem requestAlert_newest (p : Nat) (switch : Option Superframe) (s : State) :
    (requestAlert p switch s).capacity.buffer (requestAlert p switch s).capacity.newest
        = s.capacity.buffer s.capacity.newest
      ∧ (requestAlert p switch s).capacity.generation = s.capacity.generation := by
  unfold requestAlert placeAlert
  split
  · split
    · exact ⟨rfl, rfl⟩
    · exact ⟨rfl, rfl⟩
  · exact ⟨rfl, rfl⟩

@[simp] theorem commitAlert_newest (s : State) :
    (commitAlert s).capacity.buffer (commitAlert s).capacity.newest = s.capacity.buffer s.capacity.newest
      ∧ (commitAlert s).capacity.generation = s.capacity.generation := by
  unfold commitAlert
  split
  · split
    · exact requestAlert_newest ..
    · exact ⟨rfl, rfl⟩
  · exact ⟨rfl, rfl⟩

@[simp] theorem startRead_newest (s : State) :
    (startRead s).capacity.buffer (startRead s).capacity.newest = s.capacity.buffer s.capacity.newest
      ∧ (startRead s).capacity.generation = s.capacity.generation := by
  unfold startRead
  split
  · exact ⟨rfl, rfl⟩
  · exact reply_newest ..

theorem keepsShown_startRead (s : State) : KeepsShown s (startRead s) := by
  simp [KeepsFrame]

theorem keepsShown_endRead (b : Buffer) (s : State) : KeepsShown s (endRead b s) :=
  ⟨by simp [KeepsFrame], by simp, rfl, rfl⟩

theorem keepsShown_capacityReset (n : Nat) (s : State) : KeepsShown s (capacityReset n s) :=
  ⟨by simp [KeepsFrame], by simp, rfl, rfl⟩

theorem keepsShown_commitAlert (s : State) : KeepsShown s (commitAlert s) := by
  simp [KeepsFrame]

theorem keepsShown_requestAlert (p : Nat) (switch : Option Superframe) (s : State) :
    KeepsShown s (requestAlert p switch s) := by
  simp [KeepsFrame]

theorem keepsShown_drainAnswer (x : DrainResult) (p : BitVec 4) (s : State) : KeepsShown s (drainAnswer x p s) := by
  simp [KeepsFrame, drainAnswer]

theorem keepsShown_raise (e : Event) (s : State) : KeepsShown s (raise e s) := by
  simp [KeepsFrame]

/-! ### Commits, the fallback and completion (R121, R122, R129, R132) -/

section

variable {s : State} (h : s.EnginesFit) (hx : s.link ≠ .offline)
include h hx

/-- A commit is published when it is made (R129). -/
theorem recordCommit_recorded {p lead : Nat} (confirmed emergency : Bool) (hp : s.ladder.active.enabledAt p = true)
    (hne : p ≠ s.tae.c) (hslot : s.tae.lastSlot.isSome = true) (hlead : LeadInRange lead) :
    (recordCommit p lead confirmed emergency s).Recorded := by
  obtain ⟨n, hn⟩ := Option.isSome_iff_exists.1 hslot
  have hcommitted : (s.withTae { s.tae with
      state := .committed ⟨p, plusLead n lead⟩
      counters := s.tae.counters.countCommit (decide (p < s.tae.c)) confirmed emergency }).EnginesFit :=
    h.onTae (y := s.link) hx hx (by simp [KeepsFrame]) rfl (h.tae.committed hx hx hn hp hne hlead _)
  have hmade : recordCommit p lead confirmed emergency s = publish (s.withTae { s.tae with
      state := .committed ⟨p, plusLead n lead⟩
      counters := s.tae.counters.countCommit (decide (p < s.tae.c)) confirmed emergency }) := by
    simp only [recordCommit, hn]
  rw [hmade]
  exact hcommitted.published

theorem makeCommit_recorded {p lead : Nat} (confirmed emergency : Bool) (hp : s.ladder.active.enabledAt p = true)
    (hne : p ≠ s.tae.c) (hslot : s.tae.lastSlot.isSome = true) (hlead : LeadInRange lead) :
    (makeCommit p lead confirmed emergency s).Recorded :=
  (recordCommit_recorded h hx confirmed emergency hp hne hslot hlead).congr (keepsShown_commitAlert _)

theorem becomeSteady_fit : (becomeSteady s).EnginesFit :=
  h.onTae (y := s.link) hx hx (by simp [KeepsFrame]) rfl (h.tae.steady hx hx)

end

section

variable {s : State} {y : LinkState} (h : (s.withLink y).EnginesFit) (hy : y ≠ .offline) (hx : s.link ≠ .offline)
include h hy hx

/-- The fallback leaves no drain, so that it fits the link state that follows `y`; it changes nothing shown, or publishes. -/
theorem fallback_keeps : (fallback s).EnginesFit ∧ (s.RecordCurrent → (fallback s).RecordCurrent) := by
  have hsteady : (becomeSteady s).EnginesFit := h.onTae hy hx (by simp [KeepsFrame]) rfl (h.tae.steady hy hx)
  have hkept (hdrain : s.tae.state.drain? = none) : s.EnginesFit :=
    h.onTae hy hx (by simp [KeepsFrame]) rfl (h.tae.inRunning hy hx (.inr hdrain))
  have hzero : s.ladder.active.enabledAt 0 = true := h.zero hy
  have hcommit (hc : s.tae.c ≠ 0) : (makeCommit 0 (emergencyLead s) false false (becomeSteady s)).Recorded :=
    makeCommit_recorded hsteady hx false false hzero (Ne.symm hc) (h.tae.slot (.inl hc))
      (emergencyLead_inRange h.params)
  unfold fallback
  split
  · split
    · exact ⟨hkept (h.tae.noDrain_of_zero ‹_›), id⟩
    · exact ⟨(hcommit ‹_›).fit, fun _ => (hcommit ‹_›).record⟩
  · rename_i k hk
    have hdrain : s.tae.state.drain? = none := by
      unfold Tae.commit? at hk
      split at hk
      · rename_i hs
        rw [hs]
        rfl
      · cases hk
    split
    · split
      · split
        · exact ⟨hsteady.published.fit, fun _ => hsteady.published.record⟩
        · exact ⟨hkept hdrain, id⟩
      · split
        · exact ⟨hkept hdrain, id⟩
        · exact ⟨(hcommit ‹_›).fit, fun _ => (hcommit ‹_›).record⟩
    · exact ⟨(hkept hdrain).congr (by simp [KeepsFrame]) (by simp), id⟩

end

/-- With a commit present the link is not OFFLINE. -/
theorem Tae.Fits.running {x : LinkState} {l : Ladder} {t : Tae} (h : t.Fits x l) (hs : t.state ≠ .steady) :
    x ≠ .offline := fun e => hs (h.atRest e).2

/-- The switch that falls on slot `n`: a commit that is due is completed, and one that stays is not due yet. -/
theorem switchDue_recorded {s : State} (h : s.Recorded) (n : Superframe) :
    (switchDue n (s.withTae { s.tae with lastSlot := some n })).Recorded := by
  have hset {t : State} (hframe : KeepsFrame s t) (hrae : t.rae = s.rae)
      (htae : t.tae.Fits s.link s.ladder.active) : t.EnginesFit :=
    State.EnginesFit.congr (s := s.withTae t.tae) ⟨h.fit.ladder, h.fit.params, h.fit.peer, h.fit.rae, htae⟩ hframe
      (by simp [hrae])
  have hrecord : (s.withTae { s.tae with lastSlot := some n }).RecordCurrent :=
    recordCurrent_congr h.record (fun _ => rfl) ⟨rfl, rfl⟩
  by_cases hcommitted : ∃ k, s.tae.state = .committed k
  · obtain ⟨k, hs⟩ := hcommitted
    obtain ⟨hne, hen, -⟩ := h.fit.tae.commit k (by simp [Tae.commit?, hs])
    have hrun := h.fit.tae.running (by simp [hs])
    rw [switchDue_of_committed (k := k) (by simpa using hs)]
    split
    · have hfit := hset (t := raise .profileChangedTx (s.withTae { s.tae with
          lastSlot := some n, c := k.profile, state := .steady
          counters := s.tae.counters.countSwitch s.tae.c k.profile }))
        (by simp [KeepsFrame]) (by simp)
        (Tae.Fits.completed (t := { s.tae with lastSlot := some n }) hrun hen rfl _)
      exact hfit.published
    · rename_i hdue
      refine ⟨hset (by simp [KeepsFrame]) rfl ⟨h.fit.tae.profile, h.fit.tae.atRest, fun _ => rfl, ?_, ?_⟩, hrecord⟩
      · simp [hs, TaeState.drain?]
      · have hlate : atOrAfter n k.switch = false := by
          rw [← Bool.not_eq_true, atOrAfter_iff]
          omega
        simpa [hs, Tae.commit?] using ⟨hne, hen, by simpa using (not_due_iff k.switch n).2 hlate⟩
  · have hnone : ∀ k, s.tae.state ≠ .committed k := fun k hk => hcommitted ⟨k, hk⟩
    rw [switchDue_of_not_committed (by simpa using hnone)]
    refine ⟨hset (by simp [KeepsFrame]) rfl
      ⟨h.fit.tae.profile, h.fit.tae.atRest, fun _ => rfl, h.fit.tae.drain, fun k hk => ?_⟩, hrecord⟩
    have hcommit : (s.withTae { s.tae with lastSlot := some n }).tae.commit? = none :=
      (Tae.commit?_eq_none_iff _).2 hnone
    rw [hcommit] at hk
    cases hk

/-- An owed fallback, served or dropped (R121, R132). -/
theorem serveFallback_recorded {s : State} (h : s.Recorded) : (serveFallback s).Recorded := by
  have hdropped : (s.withTae { s.tae with fallbackOwed := false }).Recorded :=
    h.congr (by simp [KeepsFrame])
  unfold serveFallback
  split
  · split
    · rename_i hholding
      have hrun := (LinkState.of_holding hholding).1
      obtain ⟨hfit, hrecord⟩ := fallback_keeps (s := s.withTae { s.tae with fallbackOwed := false }) hdropped.fit hrun
        hrun
      exact ⟨hfit, hrecord hdropped.record⟩
    · exact hdropped
  · exact h

/-! ### Requests from the far end (R124 to R128) -/

section

variable {s : State} {p : Nat} (h : s.Recorded) (hx : s.link.adapting = true)
  (hp : p = s.tae.c ∨ s.ladder.active.enabledAt p = true) (hslot : s.tae.lastSlot.isSome = true)
include h hx hp hslot

theorem targetSteady_recorded (kind : RequestKind) : (targetSteady p kind s).Recorded := by
  have hrun := LinkState.not_offline_of_adapting hx
  unfold targetSteady
  split
  · exact h
  · rename_i hne
    have hen := hp.resolve_left hne
    split
    · exact makeCommit_recorded h.fit hrun false false hen hne hslot (commitLead_inRange h.fit.params)
    · split
      · exact makeCommit_recorded h.fit hrun false true hen hne hslot (emergencyLead_inRange h.fit.params)
      · have htimeout := h.fit.params
        unfold Params.Lawful at htimeout
        have hdrains := h.fit.tae.drains (d := p) (timer := 0) (limit := s.params.drainTimeout) hx (by omega) hen hslot
          (by omega)
        have hfit := State.EnginesFit.onTae
          (t := s.withTae { s.tae with state := .draining p 0 s.params.drainTimeout }) h.fit hrun hrun
          (by simp [KeepsFrame]) rfl hdrains
        exact hfit.published.congr (keepsShown_requestAlert ..)

theorem targetDraining_recorded {d timer limit : Nat} (hs : s.tae.state = .draining d timer limit)
    (kind : RequestKind) : (targetDraining d timer limit p kind s).Recorded := by
  have hrun := LinkState.not_offline_of_adapting hx
  have hsteady := becomeSteady_fit h.fit hrun
  unfold targetDraining
  split
  · exact targetSteady_recorded (s := publish (becomeSteady s)) hsteady.published hx hp hslot kind
  · have hen := hp.resolve_left (by omega)
    split
    · exact makeCommit_recorded hsteady hrun false true hen
        (by rw [becomeSteady_tae]; dsimp only; omega) hslot (emergencyLead_inRange h.fit.params)
    · split
      · obtain ⟨-, -, -, htimer, -⟩ := h.fit.tae.of_draining hs
        have hfit := State.EnginesFit.onTae (t := s.withTae { s.tae with state := .draining p timer limit }) h.fit hrun
          hrun (by simp [KeepsFrame]) rfl (h.fit.tae.drains hx (by omega) hen hslot htimer)
        exact hfit.published.congr (keepsShown_requestAlert ..)
      · exact h

theorem handleTarget_recorded (kind : RequestKind) : (handleTarget p kind s).Recorded := by
  have hrun := LinkState.not_offline_of_adapting hx
  unfold handleTarget
  split
  · exact targetSteady_recorded h hx hp hslot kind
  · exact targetDraining_recorded h hx hp hslot ‹_› kind
  · unfold targetCommitted
    split
    · rename_i hbelow
      simp only [Bool.and_eq_true, decide_eq_true_eq] at hbelow
      obtain ⟨⟨⟨hlt, -⟩, -⟩, -⟩ := hbelow
      exact makeCommit_recorded h.fit hrun false true (hp.resolve_left (by omega)) (by omega) hslot
        (emergencyLead_inRange h.fit.params)
    · exact h

end

theorem takeRequest_recorded {s : State} (h : s.Recorded) (r : Request) : (takeRequest r s).Recorded := by
  unfold takeRequest
  split
  · rename_i htaken
    simp only [Bool.and_eq_true] at htaken
    obtain ⟨⟨hx, -⟩, hslot⟩ := htaken
    split
    · exact h.congr (by simp [KeepsFrame, countBadRequest])
    · rename_i htarget
      exact handleTarget_recorded h hx
        (targetOf_enabledAt htarget (h.fit.zero (LinkState.not_offline_of_adapting hx))) hslot r.kind
  · exact h

/-! ### Strobes and DRAIN READY (R130, R131, R137, R138) -/

theorem takePower_recorded {s : State} (h : s.Recorded) (p : PowerRequest) : (takePower p s).Recorded := by
  unfold takePower
  split
  · exact h.congr (by simp [KeepsFrame])
  · exact h

theorem slewStrobe_recorded {s : State} (h : s.Recorded) : (slewStrobe s).Recorded := by
  unfold slewStrobe
  split
  · exact h.congr (by simp [KeepsFrame])
  · exact h.congr (by simp [KeepsFrame])

/-- The drain timer is not shown, and the drain that it ends is followed by a commit, for *n*_last is set. -/
theorem drainStrobe_recorded {s : State} (h : s.Recorded) : (drainStrobe s).Recorded := by
  unfold drainStrobe
  split
  · rename_i d timer limit hs
    obtain ⟨hlt, hen, hx, -, hslot⟩ := h.fit.tae.of_draining hs
    have hrun := LinkState.not_offline_of_adapting hx
    split
    · have hcounted : (raise .drainTimeout (s.withTae { s.tae with
          counters := { s.tae.counters with drainTimeouts := s.tae.counters.drainTimeouts + 1 } })).EnginesFit :=
        h.fit.congr (by simp [KeepsFrame]) (by simp)
      have hsteady := becomeSteady_fit hcounted hrun
      exact makeCommit_recorded hsteady hrun false false hen (Nat.ne_of_lt hlt) hslot
        (commitLead_inRange h.fit.params)
    · have htx : txPending (s.withTae { s.tae with state := .draining d (timer + 1) limit }) = txPending s := by
        have hdraining : txPending s = .drainRequested d (shownCapacity s d) := by simp only [txPending, hs]
        rw [hdraining]
        rfl
      refine ⟨State.EnginesFit.onTae (t := s.withTae { s.tae with state := .draining d (timer + 1) limit }) h.fit hrun
        hrun (by simp [KeepsFrame]) rfl (h.fit.tae.drains hx hlt hen hslot (by omega)), ?_⟩
      exact recordCurrent_congr h.record (fun g => congrArg (fun x => { recordNow g s with tx := x }) htx) ⟨rfl, rfl⟩
  · exact h

theorem taeStrobe_recorded {s : State} (h : s.Recorded) : (taeStrobe s).Recorded :=
  slewStrobe_recorded (drainStrobe_recorded h)

theorem handleDrainReady_recorded {s : State} (h : s.Recorded) (p : BitVec 4) : (handleDrainReady p s).Recorded := by
  unfold handleDrainReady
  split
  · rename_i htoward
    unfold drainsToward at htoward
    split at htoward
    · rename_i hs
      obtain ⟨hlt, hen, hx, -, hslot⟩ := h.fit.tae.of_draining hs
      have hrun := LinkState.not_offline_of_adapting hx
      rw [← of_decide_eq_true htoward] at hlt hen
      have hsteady := becomeSteady_fit h.fit hrun
      have hcommit := recordCommit_recorded hsteady hrun true false hen (Nat.ne_of_lt hlt)
        hslot (commitLead_inRange h.fit.params)
      exact (hcommit.congr (keepsShown_drainAnswer ..)).congr (keepsShown_commitAlert _)
    · cases htoward
  · have hcounted : (s.withTae { s.tae with
        counters := { s.tae.counters with lateAnswers := s.tae.counters.lateAnswers + 1 } }).Recorded :=
      h.congr (by simp [KeepsFrame])
    exact hcounted.congr (keepsShown_drainAnswer ..)

/-! ### The RAE (R92, R104, R107, R108, R110 to R113) -/

/-- An evaluation moves neither the expected profile nor the pending commit. -/
theorem decideRequest_keeps (s : State) :
    (decideRequest s).e = s.rae.e ∧ (decideRequest s).commit = s.rae.commit := by
  unfold decideRequest
  split
  case h_5 => split <;> exact ⟨rfl, rfl⟩
  all_goals exact ⟨rfl, rfl⟩

theorem raeEvaluate_keeps (s : State) :
    (raeEvaluate s).rae.e = s.rae.e ∧ (raeEvaluate s).rae.commit = s.rae.commit := by
  by_cases hx : s.link = .offline
  · simp [raeEvaluate, hx]
  · obtain ⟨n, reported, hrae⟩ := raeEvaluate_rae hx
    rw [hrae]
    exact decideRequest_keeps (evaluationBegins s)

theorem raeOverflow_recorded {s : State} (h : s.Recorded) : (raeOverflow s).Recorded := by
  unfold raeOverflow
  split
  · exact h
  · exact h.congr (by simp [KeepsFrame])

theorem seeCommit_recorded {s : State} (h : s.Recorded) (hx : s.link ≠ .offline) (k : Option Commit) :
    (seeCommit k s).Recorded := by
  have hseen (start : Option Superframe) (p : Nat) (c : Option Commit)
      (hc : ∀ k ∈ c, k.profile ≠ s.rae.e ∧ s.ladder.active.enabledAt k.profile = true) :
      (publish (sendReceiveOrder start p (s.withRae { s.rae with commit := c }))).Recorded :=
    (h.fit.onRae (t := sendReceiveOrder start p (s.withRae { s.rae with commit := c })) (by simp [KeepsFrame]) (by simp)
      (by simpa using (⟨fun _ => h.fit.rae.profile hx, hc, fun e => absurd e hx⟩ :
        Rae.Fits s.link s.ladder.active { s.rae with commit := c }))).published
  unfold seeCommit
  split
  · exact h
  · rename_i k
    split
    · exact h.congr (by simp [KeepsFrame])
    · rename_i hen
      split
      · exact h
      · split
        · split
          · exact h
          · exact hseen _ _ none (by simp)
        · rename_i hne
          exact hseen _ _ (some k) (by simpa using ⟨hne, by simpa using hen⟩)

/-- The completion of a commit to an enabled entry (R111). -/
theorem completeCommit_recorded {s : State} (h : s.Recorded) {q : Nat} (hq : s.ladder.active.enabledAt q = true) :
    (completeCommit q s).Recorded :=
  ⟨h.fit.onRae (by simp [KeepsFrame]) (by simp)
    (by rw [completeCommit_rae]; exact .of_no_commit (fun _ => hq) rfl), publish_recordCurrent _⟩

/-- Counting a header moves neither the expected profile nor the pending commit. -/
theorem countHeader_recorded {s : State} (h : s.Recorded) (x : Header) : (countHeader x s).Recorded := by
  unfold countHeader
  split
  · exact h.congr (by simp [KeepsFrame])
  · split
    · exact h.congr (by simp [KeepsFrame])
    · exact h.congr (by simp [KeepsFrame])

/-- A header that is followed names an enabled entry (R113). -/
theorem followHeader_recorded {s : State} (h : s.Recorded) {p : Nat} (hp : s.ladder.active.enabledAt p = true)
    (m : Superframe) : (followHeader p m s).Recorded := by
  refine ⟨h.fit.onRae (by simp [KeepsFrame]) (by simp) ?_, publish_recordCurrent _⟩
  have hrae : (followHeader p m s).rae.e = p ∧ (followHeader p m s).rae.commit = none := by
    unfold followHeader
    split
    · rename_i he
      exact ⟨he.symm, rfl⟩
    · exact ⟨rfl, rfl⟩
  exact .of_no_commit (fun _ => by rw [hrae.1]; exact hp) hrae.2

theorem takeHeader_recorded {s : State} (h : s.Recorded) (x : Header) : (takeHeader x s).Recorded := by
  unfold takeHeader
  split
  · rename_i hc
    unfold completes at hc
    split at hc
    · rename_i k hk
      simp only [Bool.and_eq_true, decide_eq_true_eq] at hc
      exact completeCommit_recorded h (hc.2 ▸ (h.fit.rae.commit k hk).2)
    · cases hc
  · split
    · split
      · rename_i hfollows
        cases hn : followCounted s x with
        | some n =>
          exact followHeader_recorded (countHeader_recorded h x) (by simpa using (followCounted_eq_some hn).1) _
        | none => simp [headerFollows, hn] at hfollows
      · exact countHeader_recorded h x
    · exact h

theorem raeHeader_recorded {s : State} (h : s.Recorded) (l : Branch) (x : Header) : (raeHeader l x s).Recorded := by
  unfold raeHeader
  split
  · exact takeHeader_recorded h x
  · exact h

end Sys2Proof.Machine
end

section
/-! SUPPORT. Changes of link state (R155): each ends in a publication, so that only the engines' fit is asked for, and the
link state that follows decides what else is. -/

namespace Sys2Proof.Machine

theorem keepsShown_respond (r : Response) (s : State) : KeepsShown s (respond r s) := by
  simp [KeepsFrame]

/-- What a change of link state publishes is what the blocks have made of their work. -/
theorem changeLink_recorded {new : LinkState} {act : State → State} {s : State}
    (h : (act (s.withLink new)).EnginesFit) : (changeLink new act s).Recorded :=
  (h.congr (t := raise .stateChanged (act (s.withLink new))) (by simp [KeepsFrame]) (by simp)).published

namespace State.EnginesFit

variable {s : State}

theorem withLink (h : s.EnginesFit) {new : LinkState} (hx : s.link ≠ .offline) (hnew : new ≠ .offline)
    (hdrain : new.adapting = true ∨ s.tae.state.drain? = none) : (s.withLink new).EnginesFit :=
  ⟨h.ladder, h.params, h.peer, h.rae.inRunning hx hnew, h.tae.inRunning hx hnew hdrain⟩

/-- The end of adaptive operation: the fallback leaves no drain (R132). -/
theorem after_changeLink_fallback (h : s.EnginesFit) {new : LinkState} (hx : s.link ≠ .offline)
    (hnew : new.holding = true) : (changeLink new fallback s).Consistent :=
  (changeLink_recorded (fallback_keeps (s := s.withLink new) (y := s.link) h hx (LinkState.of_holding hnew).1).1).inHolding
    (by simpa [changeLink] using hnew)

theorem after_enterMismatch_fallback (h : s.EnginesFit) (hx : s.link ≠ .offline) :
    (enterMismatch fallback s).Consistent :=
  (h.after_changeLink_fallback hx (new := .acquire .ladderMismatch) rfl).congr (keepsShown_raise ..)

/-- A change into ACQUIRE or FIXED that no block acts on, from a link state in which nothing drains. -/
theorem after_changeLink_holding (h : s.EnginesFit) {new : LinkState} (hx : s.link.holding = true)
    (hnew : new.holding = true) : (changeLink new id s).Consistent := by
  obtain ⟨hrun, hadapting, -⟩ := LinkState.of_holding hx
  exact (changeLink_recorded (act := id)
    (h.withLink hrun (LinkState.of_holding hnew).1 (.inr (h.tae.noDrain hadapting)))).inHolding (by simpa using hnew)

/-- A change into adaptive operation, or within it, with the channel UP and equal digests. -/
theorem after_changeLink_adapting (h : s.EnginesFit) (hx : s.link ≠ .offline) {new : LinkState}
    (hnew : new.adapting = true) (hup : s.peer.state = .up) (hdigest : s.peer.fields.digest = some s.ladder.digest)
    (hpin : ∀ p ∈ new.pin?, s.ladder.active.enabledAt p = true) : (changeLink new id s).Consistent :=
  (changeLink_recorded (act := id)
    (h.withLink hx (LinkState.not_offline_of_adapting hnew) (.inl hnew))).inAdapting (by simpa using hnew)
    (by simpa using hup) (by simpa using hdigest) (by simpa using hpin)

end State.EnginesFit

namespace State.Recorded

variable {s : State}

/-- The comparison of the digests in ACQUIRE with the channel UP (R160, R162). -/
theorem after_compareInAcquire (h : s.Recorded) {reason : WaitReason} (hx : s.link = .acquire reason)
    (hup : s.peer.state = .up) : (compareInAcquire reason s).Consistent := by
  have hholding : s.link.holding = true := by simp [hx, LinkState.holding]
  unfold compareInAcquire
  split
  · rename_i hdigest
    exact h.fit.after_changeLink_adapting (by simp [hx]) rfl hup ((digestsEqual_iff s).1 hdigest)
      (by simp [LinkState.pin?])
  · split
    · exact h.inHolding hholding
    · exact (h.fit.after_changeLink_holding hholding (new := .acquire .ladderMismatch) rfl).congr (keepsShown_raise ..)

/-- A word that the channel has just taken may break the ties of adaptive operation; the Link Supervisor mends them
before the word goes on (R160). -/
theorem after_supervisorHandOff (h : s.Recorded) (hrun : s.link ≠ .offline)
    (hup : s.link.adapting = true → s.peer.state = .up)
    (hpin : ∀ p ∈ s.link.pin?, s.ladder.active.enabledAt p = true) : (supervisorHandOff s).Consistent := by
  have hequal (hx : s.link.adapting = true) (hdigest : digestsEqual s = true) : s.Consistent :=
    h.inAdapting hx (hup hx) ((digestsEqual_iff s).1 hdigest) hpin
  unfold supervisorHandOff
  split
  · split
    · exact h.after_compareInAcquire ‹_› ‹_›
    · rename_i hx
      split
      · exact hequal (by simp [hx, LinkState.adapting]) ‹_›
      · exact h.fit.after_enterMismatch_fallback hrun
    · rename_i hx
      split
      · exact hequal (by simp [hx, LinkState.adapting]) ‹_›
      · exact h.fit.after_enterMismatch_fallback hrun
    · exact absurd ‹_› hrun
    · rename_i hx
      exact h.inHolding (by simp [hx, LinkState.holding])
  · rename_i hstate
    refine h.inHolding ?_
    cases hx : s.link with
    | offline => exact absurd hx hrun
    | adaptive => exact absurd (hup (by simp [hx, LinkState.adapting])) hstate
    | pinned p => exact absurd (hup (by simp [hx, LinkState.adapting])) hstate
    | _ => rfl

/-- With the channel DOWN the DOWN notice mends the ties of adaptive operation (R161). -/
theorem after_supervisorDown (h : s.Recorded) (hdown : s.peer.state = .down) : (supervisorDown s).Consistent := by
  unfold supervisorDown
  split
  · rename_i hx
    exact h.fit.after_changeLink_fallback (by simp [hx]) rfl
  · rename_i hx
    exact h.fit.after_changeLink_fallback (by simp [hx]) rfl
  · rename_i hx
    have hholding : s.link.holding = true := by simp [hx, LinkState.holding]
    split
    · exact h.inHolding hholding
    · exact h.fit.after_changeLink_holding hholding rfl
  · exact h.inOffline ‹_› hdown
  · rename_i hx
    exact h.inHolding (by simp [hx, LinkState.holding])

/-- Entering DOWN needs of the channel before it only what DOWN keeps: the foreign counter and the ring (R76). -/
theorem after_enterDown (h : s.Recorded) {k : PeerChannel} (hforeign : k.foreign ≤ 254) (hring : k.ring.length ≤ 16) :
    (enterDown (s.withPeer k)).Consistent := by
  have hdown : (s.withPeer k.entersDown).Recorded :=
    ⟨⟨h.fit.ladder, h.fit.params, PeerChannel.entersDown_lawful hforeign hring, h.fit.rae, h.fit.tae⟩, h.record⟩
  have hraised : (raiseIf (decide (k.state = .up)) .peerDown (s.withPeer k.entersDown)).Recorded :=
    hdown.congr (by simp [KeepsFrame])
  rw [enterDown_withPeer]
  exact (hraised.after_supervisorDown (by simp [PeerChannel.entersDown])).congr
    (by simp [KeepsFrame])

end State.Recorded

end Sys2Proof.Machine
end

section
/-! SUPPORT. Words, reports, strobes and commands keep a state consistent, in the order of Dispatch.lean's files. -/

namespace Sys2Proof.Machine

namespace State.Consistent

variable {s t : State}

/-! ### Words and silence (Peer.lean) -/

theorem foreign_ring (h : s.Consistent) : s.peer.foreign ≤ 254 ∧ s.peer.ring.length ≤ 16 := by
  obtain ⟨-, -, -, -, hforeign, -, -, hring⟩ := h.fit.peer
  exact ⟨hforeign, hring⟩

theorem after_acceptWord (h : s.Consistent) (hx : s.link ≠ .offline) (m : Superframe) (w : OverheadWord) :
    (acceptWord m w s).Consistent := by
  unfold acceptWord
  split
  · have hopen := PeerChannel.taken_open h.fit.peer m w
    exact (h.recorded.congr (keepsShown_raise .echoFault s)).after_enterDown hopen.foreign hopen.ring
  · rename_i hfault
    have htaken : (s.withPeer (s.peer.taken m w)).Recorded :=
      ⟨⟨h.fit.ladder, h.fit.params, PeerChannel.taken_lawful h.fit.peer m w (by simpa using hfault), h.fit.rae,
        h.fit.tae⟩, h.recorded.record⟩
    have hraised := htaken.congr (t := raiseIf (wordTakesUp s.peer m w) .peerUp (s.withPeer (s.peer.taken m w)))
      (by simp [KeepsFrame])
    have hsupervised := hraised.after_supervisorHandOff (by simpa using hx)
      (fun hadapting => by simpa using PeerChannel.taken_state_of_up (h.adapting (by simpa using hadapting)).1 m w)
      (by simpa using h.pin)
    have hseen := seeCommit_recorded hsupervised.recorded (supervisorHandOff_not_offline (by simpa using hx))
      w.fields.commit
    exact hsupervised.move (by simp [KeepsFrame, handOff]) (takeRequest_recorded (takePower_recorded hseen _) _)

theorem after_passIdentity (h : s.Consistent) : (passIdentity s).Consistent :=
  h.withPeer (PeerChannel.withForeign_lawful h.fit.peer (by have := h.foreign_ring.1; omega) s.peer.counters) rfl rfl

theorem after_foreignWord (h : s.Consistent) : (foreignWord s).Consistent := by
  have hcount : (if foreignReached s then 0 else s.peer.foreign + 1) ≤ 254 := by
    have hparams := h.fit.params
    unfold Params.Lawful at hparams
    split
    · exact Nat.zero_le _
    · rename_i hreached
      simp only [foreignReached, decide_eq_true_eq] at hreached
      omega
  have hcounted := h.withPeer (PeerChannel.withForeign_lawful h.fit.peer hcount
    { s.peer.counters with foreignWords := s.peer.counters.foreignWords + 1 }) rfl rfl
  exact hcounted.congr (by simp [KeepsFrame, foreignWord])

theorem after_checkWord (h : s.Consistent) (m : Superframe) (bytes : List Byte) : (checkWord m bytes s).Consistent := by
  have hcounted (t : State) (ht : t.Consistent) (k : PeerCounters) :
      (t.withPeer { t.peer with counters := k }).Consistent :=
    ht.withPeer (PeerChannel.withCounters_lawful ht.fit.peer k) rfl rfl
  unfold checkWord
  split
  · unfold checkIdentity
    split
    · have hpassed := h.after_passIdentity
      unfold checkOrder
      split
      · exact hpassed
      · split
        · exact hpassed.after_acceptWord ‹_› m _
        · exact hcounted _ hpassed _
    · exact h.after_foreignWord
  · exact hcounted s h _

theorem after_silenceStrobe (h : s.Consistent) : (silenceStrobe s).Consistent := by
  obtain ⟨hforeign, hring⟩ := h.foreign_ring
  unfold silenceStrobe
  split
  · exact h
  · rename_i hstate
    split
    · exact h.recorded.after_enterDown hforeign hring
    · rename_i hreached
      have hparams := h.fit.params
      unfold Params.Lawful at hparams
      simp only [silenceReached, hstate, ne_eq, not_false_eq_true, decide_true, Bool.true_and,
        decide_eq_true_eq] at hreached
      exact h.withPeer (PeerChannel.withSilence_lawful h.fit.peer (by omega) hstate) rfl rfl

/-! ### Reports and strobes -/

/-- A change within adaptive operation, to a state whose pin profile is enabled. -/
theorem after_changeLink_adapting (h : s.Consistent) (hx : s.link.adapting = true) {new : LinkState}
    (hnew : new.adapting = true) (hpin : ∀ p ∈ new.pin?, s.ladder.active.enabledAt p = true) :
    (changeLink new id s).Consistent := by
  obtain ⟨hup, hdigest⟩ := h.adapting hx
  exact h.fit.after_changeLink_adapting (LinkState.not_offline_of_adapting hx) hnew hup hdigest hpin

theorem after_supervisorOverflow (h : s.Consistent) : (supervisorOverflow s).Consistent := by
  unfold supervisorOverflow
  split
  · rename_i hx
    exact (h.after_changeLink_adapting (new := .adaptive) (by simp [hx, LinkState.adapting]) rfl
      (by simp [LinkState.pin?])).congr (keepsShown_raise ..)
  · exact h

theorem after_monitorReport (h : s.Consistent) (l : Branch) (r : Report) : (monitorReport l r s).Consistent := by
  have hmeasured : (raiseIf (losesLock (s.monitor.get l) r) .branchLost (monitorStep l r s)).Consistent :=
    h.congr (by simp [KeepsFrame])
  unfold monitorReport
  split
  · have hraised := hmeasured.congr (keepsShown_raise (burstOverflowEvent l) _)
    unfold burstEffects overflowNotice
    split
    · exact (hraised.move (t := raeOverflow _) (by simp [KeepsFrame])
        (raeOverflow_recorded hraised.recorded)).after_supervisorOverflow
    · exact hraised
  · exact hmeasured

theorem after_handleReport (h : s.Consistent) (l : Branch) (r : Report) : (handleReport l r s).Consistent := by
  have hclassified : (reportClassified l r s).Consistent :=
    (h.after_monitorReport l r).congr
      (by simp [KeepsFrame, reportClassified])
  have hworded : (reportWorded l r s).Consistent := by
    unfold reportWorded wordStep
    split
    · exact hclassified.after_checkWord _ _
    · exact hclassified
  unfold handleReport headerStep
  split
  · exact hworded.move (by simp [KeepsFrame]) (raeHeader_recorded hworded.recorded l _)
  · exact hworded

theorem after_reportWhen (h : s.Consistent) (l : Branch) (message : List Byte) (when : Report → Bool) :
    (reportWhen l message when s).Consistent := by
  unfold reportWhen
  split
  · exact h.ite (h.after_handleReport l _) _
  · exact h

theorem after_evaluate (h : s.Consistent) : (evaluate s).Consistent := by
  have hkept := raeEvaluate_keeps (selectorEvaluate s)
  exact h.congr (by simp [KeepsFrame, evaluate, hkept])

theorem after_taeStrobe (h : s.Consistent) : (taeStrobe s).Consistent :=
  h.move (by simp [KeepsFrame]) (taeStrobe_recorded h.recorded)

/-! ### The slot request, DRAIN READY and the Capacity Link -/

theorem after_handleSlot (h : s.Consistent) (n : Superframe) : (handleSlot n s).Consistent := by
  have hserved : (serveFallback (switchDue n (s.withTae { s.tae with lastSlot := some n }))).Consistent :=
    h.move (by simp [KeepsFrame]) (serveFallback_recorded (switchDue_recorded h.recorded n))
  unfold handleSlot sendTransmitOrder
  split
  · exact hserved.congr (by simp [KeepsFrame])
  · exact (hserved.withPeer (PeerChannel.challenged_lawful hserved.fit.peer) rfl rfl).congr
      (by simp [KeepsFrame])

theorem after_execTransmitSlotRequest (h : s.Consistent) (l : Branch) (m : List Byte) :
    ∃ t, execTransmitSlotRequest l m s = .next t ∧ t.Consistent := by
  refine ⟨_, rfl, ?_⟩
  split
  · exact h.ite (h.after_handleSlot _) _
  · exact h

theorem after_execDrainReady (h : s.Consistent) (m : List Byte) :
    ∃ t, execDrainReady m s = .next t ∧ t.Consistent := by
  refine ⟨_, rfl, ?_⟩
  split
  · exact h.ite (h.move (by simp [KeepsFrame]) (handleDrainReady_recorded h.recorded _)) _
  · exact h

theorem after_execEndOfRead (h : s.Consistent) : ∃ t, execEndOfRead s = .next t ∧ t.Consistent := by
  refine ⟨_, rfl, ?_⟩
  split
  · exact h.congr (keepsShown_endRead _ _)
  · exact h

/-! ### Modem Links and the input store -/

theorem after_messageSent (h : s.Consistent) (l : Branch) : (messageSent l s).Consistent := by
  unfold messageSent
  split
  · exact h
  · exact h.congr (by simp [KeepsFrame, sendModem])

theorem after_respond (h : s.Consistent) (r : Response) : (respond r s).Consistent := h.congr (keepsShown_respond r s)

/-- The state in which a turn finds a command differs in the input store alone. -/
theorem withFrames (h : s.Consistent) (frames : List HeldFrame) :
    (s.withControl { s.control with frames := frames }).Consistent :=
  h.congr (by simp [KeepsFrame])

theorem of_turnOfFrame (h : s.Consistent) {f : List Byte} (ht : turnOfFrame f s = some t) : t.Consistent := by
  unfold turnOfFrame at ht
  split at ht
  · cases ht
  · split at ht
    · cases ht
      exact h
    · split at ht
      · cases ht
        exact h.withFrames _
      · cases ht
    · cases ht

theorem after_execUnknownCommand (h : s.Consistent) (f : List Byte) :
    ∃ t, execUnknownCommand f s = .next t ∧ t.Consistent := by
  refine ⟨_, rfl, ?_⟩
  split
  · rename_i ht
    exact (h.of_turnOfFrame ht).after_respond _
  · exact h

/-- A command keeps a state consistent when it does so from the state in which its turn finds it. -/
theorem after_onTurn (h : s.Consistent) (c : Instr) {act : State → State}
    (hact : ∀ u : State, u.Consistent → (act u).Consistent) :
    (onTurn c act s).Consistent := by
  cases ht : turn c s with
  | none => rw [onTurn_of_none ht]; exact h
  | some u =>
    rw [onTurn_of_some ht]
    obtain rfl | ⟨f, rest, -, rfl⟩ := turn_eq_some ht
    · exact hact _ h
    · exact hact _ (h.withFrames rest)

end State.Consistent

end Sys2Proof.Machine
end

section
/-! PROOFS. Every step keeps the newest Capacity Record current: O60. -/

namespace Sys2Proof.Machine

theorem reset_consistent : State.reset.Consistent := (consistent_iff _).2 ⟨reset_enginesLawful, rfl⟩

/-- A publication before the comparison changes nothing of what the comparison reads. -/
theorem supervisorLadder_publish_link (s : State) :
    (supervisorLadder (publish s)).link = (supervisorLadder s).link := by
  rw [(supervisorLadder_comparesDigests (publish s)).link, (supervisorLadder_comparesDigests s).link]
  simp

namespace State.Consistent

variable {s : State}

/-! ### The Control Link's own commands (ControlCommands.lean) -/

theorem after_storeParameter (h : s.Consistent) {which : ParamId} {x : Int}
    (hx : which.range.1 ≤ x ∧ x ≤ which.range.2) (hc : s.params.consistent which x = true) :
    (storeParameter which x s).Consistent := by
  have hstored := h.withParams (Params.store_lawful h.fit.params hx hc)
  unfold storeParameter paramEffects
  split
  all_goals exact hstored.congr (by simp [KeepsFrame])

theorem after_setParameter (h : s.Consistent) (identifier : Byte) (value : BitVec 32) :
    (setParameter identifier value s).Consistent := by
  unfold setParameter
  split
  · exact h.after_respond _
  · exact h.after_respond _
  · rename_i hj
    obtain ⟨hx, hc⟩ := Params.judge_take hj
    exact (h.after_storeParameter hx hc).after_respond _

theorem after_readParameter (h : s.Consistent) (identifier : Byte) : (readParameter identifier s).Consistent := by
  unfold readParameter
  split <;> exact h.after_respond _

theorem after_zeroCounters (h : s.Consistent) : (zeroCounters s).Consistent :=
  (h.withPeer (PeerChannel.withCounters_lawful h.fit.peer .zero) rfl rfl).congr
    (by simp [KeepsFrame, zeroCounters])

/-! ### The Profile Ladder's commands (LadderCommands.lean) -/

theorem edit (h : s.Consistent) : s.ladder.edit.Lawful := by
  obtain ⟨-, hedit, -⟩ := h.fit.ladder
  exact hedit

theorem after_revertEdit (h : s.Consistent) : (revertEdit s).Consistent := by
  obtain ⟨hactive, -⟩ := h.fit.ladder
  exact h.withEdit (Ladder.trimmed_lawful hactive)

theorem after_writeLadderEntry (h : s.Consistent) (i : Byte) (f : EntryFields) :
    (writeLadderEntry i f s).Consistent := by
  have hwrite : (writeEdit i.toNat (storedEntry f) s).Consistent :=
    h.withEdit (Ladder.set_lawful h.edit _ (storedEntry_lawful f))
  unfold writeLadderEntry
  split
  · exact h.after_respond _
  · split <;> exact hwrite.after_respond _

theorem after_readLadderEntry (h : s.Consistent) (copy i : Byte) : (readLadderEntry copy i s).Consistent := by
  rw [readLadderEntry_eq]
  exact h.after_respond _

theorem after_setLadderCount (h : s.Consistent) (n : Byte) : (setLadderCount n s).Consistent := by
  have hcount : appliedCount n.toNat ≤ 12 := by rw [appliedCount_eq]; omega
  exact State.Consistent.after_respond (h.withEdit (Ladder.withCount_lawful h.edit hcount)) _

/-- A commit is carried out in OFFLINE or with the link at rest, where nothing is pending and, outside OFFLINE, every
profile shown is entry 0 (R12, R13). -/
theorem atRest_of_commit (h : s.Consistent) (hr : commitRefusal s = none) :
    (s.link = .offline ∨ s.link.holding = true) ∧ s.tae.c = 0 ∧ s.tae.state = .steady ∧ s.rae.commit = none
      ∧ (s.link ≠ .offline → s.rae.e = 0) := by
  obtain ⟨hadapting, hrest⟩ := commitRefusal_none hr
  cases hx : s.link with
  | offline =>
    obtain ⟨hc, hstate⟩ := h.fit.tae.atRest hx
    exact ⟨.inl rfl, hc, hstate, h.fit.rae.atRest hx, fun e => absurd rfl e⟩
  | adaptive => simp [hx, LinkState.adapting] at hadapting
  | pinned p => simp [hx, LinkState.adapting] at hadapting
  | _ =>
    obtain ⟨hcommitted, hcommit, hc, he⟩ := (atRest_iff s).1 (hrest (by simp [hx, LinkState.holding]))
    have hdrain := h.fit.tae.noDrain hadapting
    refine ⟨.inr rfl, hc, ?_, hcommit, fun _ => he⟩
    cases hs : s.tae.state with
    | steady => rfl
    | draining d timer limit => simp [hs, TaeState.drain?] at hdrain
    | committed k => exact absurd hs (hcommitted k)

theorem replaceActive_fit (h : s.Consistent) (hr : commitRefusal s = none) : (replaceActive s).EnginesFit := by
  have hfailure := State.BlockLawful.failure_of_commitRefusal hr
  have hladder := ProfileLadder.commit_lawful h.fit.ladder hfailure
  have hzero : s.ladder.edit.trimmed.enabledAt 0 = true :=
    hladder.enabledAt_zero (Ladder.count_of_valid (l := s.ladder.edit) hfailure)
  obtain ⟨-, hc, hstate, hcommit, he⟩ := h.atRest_of_commit hr
  exact ⟨hladder, h.fit.params, h.fit.peer, .of_no_commit (fun hx => (he hx).symm ▸ hzero) hcommit,
    .of_rest (fun _ => hzero) hc hstate⟩

/-- Unless the capacity of entry 0 changes outside OFFLINE, the record shows the new ladder as it shows the old (R16). -/
theorem replaceActive_record (h : s.Consistent) (hr : commitRefusal s = none)
    (hsame : referenceCapacityChanges s = false) : (replaceActive s).RecordCurrent := by
  obtain ⟨hlink, hc, hstate, hcommit, he⟩ := h.atRest_of_commit hr
  have hshown (p : Nat) (hp : s.link ≠ .offline → p = 0) : shownCapacity (replaceActive s) p = shownCapacity s p := by
    by_cases hx : s.link = .offline
    · simp [shownCapacity, replaceActive, hx]
    · have hvalid := Ladder.count_of_valid (State.BlockLawful.failure_of_commitRefusal hr)
      have hcapacity : (s.ladder.edit.slot 0).capacity = (s.ladder.active.slot 0).capacity := by
        by_contra hne
        rw [(referenceCapacityChanges_iff hlink).2 ⟨hx, hne⟩] at hsame
        cases hsame
      simp [shownCapacity, replaceActive, hx, hp hx, Ladder.trimmed_slot, Nat.pos_of_ne_zero hvalid, hcapacity]
  refine recordCurrent_congr h.recorded.record (fun g => ?_) ⟨rfl, rfl⟩
  have htx : txPending (replaceActive s) = txPending s := by simp [txPending, replaceActive, hstate]
  have hrx : rxPending (replaceActive s) = rxPending s := by simp [rxPending, replaceActive, hcommit]
  have htae := hshown s.tae.c fun _ => hc
  have hrae := hshown s.rae.e he
  have hkept : (replaceActive s).link = s.link ∧ (replaceActive s).tae = s.tae ∧ (replaceActive s).rae = s.rae :=
    ⟨rfl, rfl, rfl⟩
  simp only [recordNow, hkept, htx, hrx, htae, hrae]

/-- The comparison after a commit finds the link in OFFLINE with the channel DOWN, or in ACQUIRE or FIXED (R162). -/
theorem after_supervisorLadder {t : State} (h : t.Consistent) : (supervisorLadder t).Consistent := by
  unfold supervisorLadder
  split
  · split
    · exact h.recorded.after_compareInAcquire ‹_› ‹_›
    · exact h
  · exact h

theorem after_carryOutCommit (h : s.Consistent) (hr : commitRefusal s = none) : (carryOutCommit s).Consistent := by
  have hfit := h.replaceActive_fit hr
  obtain ⟨hlink, -⟩ := h.atRest_of_commit hr
  have hreplaced {t : State} (ht : t.Recorded) (hx : t.link = s.link) (hpeer : t.peer = s.peer) : t.Consistent := by
    obtain hoffline | hholding := hlink
    · exact ht.inOffline (hx.trans hoffline) (by rw [hpeer]; exact h.offline hoffline)
    · exact ht.inHolding (by rw [hx]; exact hholding)
  unfold carryOutCommit
  split
  · have hcompared := (hreplaced hfit.published (by simp [replaceActive]) (by simp [replaceActive])).after_supervisorLadder
    have hframe : KeepsFrame (supervisorLadder (publish (replaceActive s)))
        (publish (supervisorLadder (replaceActive s))) := by
      simp [KeepsFrame, supervisorLadder_publish_link]
    refine hcompared.move hframe (State.EnginesFit.published ?_)
    exact hcompared.fit.congr (by simp [KeepsFrame, supervisorLadder_publish_link]) (by simp)
  · rename_i hsame
    exact (hreplaced ⟨hfit, h.replaceActive_record hr (by simpa using hsame)⟩ rfl rfl).after_supervisorLadder

theorem after_commitLadder (h : s.Consistent) : (commitLadder s).Consistent := by
  unfold commitLadder
  split
  · exact h.after_respond _
  · exact (h.after_carryOutCommit ‹_›).after_respond _

/-! ### The Link Supervisor's commands (LinkCommands.lean) -/

/-- START puts both engines on the reference entry (R114, R135). -/
theorem after_startCommand (h : s.Consistent) : (startCommand s).Consistent := by
  unfold startCommand
  split
  · exact h.after_respond _
  · split
    · exact h.after_respond _
    · rename_i hcount
      have hzero := h.fit.ladder.enabledAt_zero hcount
      have hstarted : (taeStart (raeStart (s.withLink (.acquire .starting)))).EnginesFit :=
        ⟨by simpa [taeStart] using h.fit.ladder, by simpa [taeStart] using h.fit.params,
          by simpa [taeStart] using h.fit.peer, .of_no_commit (fun _ => hzero) rfl, .of_rest (fun _ => hzero) rfl rfl⟩
      have hchanged := changeLink_recorded (act := fun t => taeStart (raeStart t)) hstarted
      exact (hchanged.inHolding rfl).after_respond _

/-- STOP takes the channel DOWN and puts both engines at rest (R80, R114, R134). -/
theorem after_stopCommand (h : s.Consistent) : (stopCommand s).Consistent := by
  unfold stopCommand
  split
  · exact h.after_respond _
  · obtain ⟨hforeign, hring⟩ := h.foreign_ring
    have hpeer : (stopLink s).peer.Lawful ∧ (stopLink s).peer.state = .down := by
      rw [stopLink_peer]
      split
      · exact ⟨h.fit.peer, ‹_›⟩
      · exact ⟨PeerChannel.entersDown_lawful hforeign hring, rfl⟩
    obtain ⟨hladder, hlink, hparams⟩ := stopLink_kept s
    obtain ⟨hlawful, hdown⟩ := hpeer
    have htae : (stopLink s).tae.Fits (stopLink s).link (stopLink s).ladder.active := by
      rw [hlink, stopLink_tae]
      exact .of_rest (fun e => absurd rfl e) rfl rfl
    have hrae : (stopLink s).rae.Fits (stopLink s).link (stopLink s).ladder.active := by
      rw [hlink, stopLink_rae]
      exact .of_no_commit (fun e => absurd rfl e) rfl
    have hrecord : (stopLink s).RecordCurrent := publish_recordCurrent _
    have hfit : (stopLink s).EnginesFit := ⟨hladder ▸ h.fit.ladder, hparams ▸ h.fit.params, hlawful, hrae, htae⟩
    exact (State.Recorded.inOffline ⟨hfit, hrecord⟩ hlink hdown).after_respond _

theorem after_holdCommand (h : s.Consistent) : (holdCommand s).Consistent := by
  unfold holdCommand
  split
  · rename_i hx
    exact (h.fit.after_changeLink_fallback (by simp [hx]) rfl).after_respond _
  · rename_i hx
    exact (h.fit.after_changeLink_fallback (by simp [hx]) rfl).after_respond _
  · rename_i hx
    exact (h.fit.after_changeLink_holding (by simp [hx, LinkState.holding]) rfl).after_respond _
  · exact h.after_respond _
  · exact h.after_respond _

theorem after_resumeCommand (h : s.Consistent) : (resumeCommand s).Consistent := by
  unfold resumeCommand
  split
  · rename_i hx
    exact (h.fit.after_changeLink_holding (by simp [hx, LinkState.holding]) rfl).after_respond _
  · exact h.after_respond _

theorem after_pinCommand (h : s.Consistent) (p : Byte) : (pinCommand p s).Consistent := by
  unfold pinCommand
  split
  · exact h.after_respond _
  · split
    · exact h.after_respond _
    · rename_i hx
      split
      · exact h.after_respond _
      · rename_i hen
        split
        · exact h.after_respond _
        · exact (h.after_changeLink_adapting (by simpa using hx) rfl
            (by simpa [LinkState.pin?] using hen)).after_respond _

theorem after_unpinCommand (h : s.Consistent) : (unpinCommand s).Consistent := by
  unfold unpinCommand
  split
  · rename_i hx
    have hchanged := h.after_changeLink_adapting (new := .adaptive) (by simp [hx, LinkState.adapting]) rfl
      (by simp [LinkState.pin?])
    exact (hchanged.congr (t := (changeLink .adaptive id s).withUnpinned true)
      (by simp [KeepsFrame])).after_respond _
  · exact h.after_respond _

theorem after_setExclusion (h : s.Consistent) (code : Byte) (x : Bool) : (setExclusion code x s).Consistent := by
  unfold setExclusion
  split
  · exact (h.congr (t := s.withSelector _)
      (by simp [KeepsFrame])).after_respond _
  · exact h.after_respond _

/-! ### The resets (Resets.lean) -/

theorem after_softResetBlocks (h : s.Consistent) : (softResetBlocks s).Consistent := by
  have hfit : (softResetBlocks s).EnginesFit :=
    ⟨h.after_revertEdit.fit.ladder, h.fit.params, PeerChannel.reset_lawful,
      .of_no_commit (fun e => absurd rfl e) rfl, .of_rest (fun e => absurd rfl e) rfl rfl⟩
  have hrecord : (softResetBlocks s).RecordCurrent :=
    (recordNow_atRest (s := softResetBlocks s) 0#16 rfl rfl rfl rfl).symm
  exact State.Recorded.inOffline ⟨hfit, hrecord⟩ rfl rfl

end State.Consistent

/-- Every command keeps a state consistent. -/
theorem exec_consistent (c : Instr) {s : State} (h : s.Consistent) : ∃ t, exec c s = .next t ∧ t.Consistent := by
  cases c with
  | powerOnReset => exact ⟨_, rfl, reset_consistent.congr (by simp [KeepsFrame])⟩
  | softReset =>
    exact ⟨_, rfl, h.after_onTurn _ fun t ht =>
      ht.congr (by simp [KeepsFrame])⟩
  | softResetTakesEffect n =>
    exact ⟨_, rfl, h.ite
      (h.congr (by simp [KeepsFrame])).after_softResetBlocks _⟩
  | modemLinkDown l =>
    exact ⟨_, rfl, h.ite (h.congr (by simp [KeepsFrame, linkLost])) _⟩
  | modemLinkUp l => exact ⟨_, rfl, h.congr (by simp [KeepsFrame])⟩
  | modemMessageSent l => exact ⟨_, rfl, h.after_messageSent l⟩
  | branchReport l m => exact ⟨_, rfl, h.after_reportWhen l m _⟩
  | burstOverflow l m => exact ⟨_, rfl, h.after_reportWhen l m _⟩
  | longFade l m => exact ⟨_, rfl, h.after_reportWhen l m _⟩
  | fastFadingOff l m => exact ⟨_, rfl, h.after_reportWhen l m _⟩
  | foreignSignal l m => exact ⟨_, rfl, h.after_reportWhen l m _⟩
  | peerUp l m => exact ⟨_, rfl, h.after_reportWhen l m _⟩
  | echoFault l m => exact ⟨_, rfl, h.after_reportWhen l m _⟩
  | headerFollow l m => exact ⟨_, rfl, h.after_reportWhen l m _⟩
  | transmitSlotRequest l m => exact h.after_execTransmitSlotRequest l m
  | reportAgeCount => exact ⟨_, rfl, h.congr (by simp [KeepsFrame])⟩
  | evaluation => exact ⟨_, rfl, h.after_evaluate⟩
  | branchSwitched => exact ⟨_, rfl, h.ite h.after_evaluate _⟩
  | upshiftDwellReached => exact ⟨_, rfl, h.ite h.after_evaluate _⟩
  | requestStalled => exact ⟨_, rfl, h.ite h.after_evaluate _⟩
  | silenceCount => exact ⟨_, rfl, h.after_silenceStrobe⟩
  | peerTimeout => exact ⟨_, rfl, h.ite h.after_silenceStrobe _⟩
  | taeStrobe => exact ⟨_, rfl, h.after_taeStrobe⟩
  | drainTimeout => exact ⟨_, rfl, h.ite h.after_taeStrobe _⟩
  | slewStep => exact ⟨_, rfl, h.ite h.after_taeStrobe _⟩
  | capacityLinkUp => exact ⟨_, rfl, h.congr ⟨by simp [KeepsFrame], by simp, rfl, rfl⟩⟩
  | capacityLinkReset n => exact ⟨_, rfl, h.ite (h.congr (keepsShown_capacityReset _ _)) _⟩
  | capacityRead m => exact ⟨_, rfl, h.ite (h.congr (keepsShown_startRead s)) _⟩
  | endOfRead => exact h.after_execEndOfRead
  | drainReady m => exact h.after_execDrainReady m
  | frameStrobeCount => exact ⟨_, rfl, h.congr (by simp [KeepsFrame])⟩
  | frameTimeout =>
    exact ⟨_, rfl, h.ite (h.congr (by simp [KeepsFrame])) _⟩
  | unknownCommand f => exact h.after_execUnknownCommand f
  | readStatus =>
    exact ⟨_, rfl, h.after_onTurn _ fun t ht =>
      (ht.congr (t := noteReported t)
        (by simp [KeepsFrame, noteReported])).after_respond _⟩
  | clearEvents =>
    exact ⟨_, rfl, h.after_onTurn _ fun t ht =>
      (ht.congr (t := clearReported t)
        (by simp [KeepsFrame, clearReported])).after_respond _⟩
  | setEventMask m =>
    exact ⟨_, rfl, h.after_onTurn _ fun t ht =>
      (ht.congr (t := setMask _ t)
        (by simp [KeepsFrame, setMask])).after_respond _⟩
  | readCounters => exact ⟨_, rfl, h.after_onTurn _ fun t ht => ht.after_respond _⟩
  | clearCounters => exact ⟨_, rfl, h.after_onTurn _ fun t ht => ht.after_zeroCounters.after_respond _⟩
  | setParameter i v => exact ⟨_, rfl, h.after_onTurn _ fun t ht => ht.after_setParameter i v⟩
  | readParameter i => exact ⟨_, rfl, h.after_onTurn _ fun t ht => ht.after_readParameter i⟩
  | writeLadderEntry i f => exact ⟨_, rfl, h.after_onTurn _ fun t ht => ht.after_writeLadderEntry i f⟩
  | readLadderEntry copy i => exact ⟨_, rfl, h.after_onTurn _ fun t ht => ht.after_readLadderEntry copy i⟩
  | setLadderCount n => exact ⟨_, rfl, h.after_onTurn _ fun t ht => ht.after_setLadderCount n⟩
  | commitLadder => exact ⟨_, rfl, h.after_onTurn _ fun t ht => ht.after_commitLadder⟩
  | revertLadder => exact ⟨_, rfl, h.after_onTurn _ fun t ht => ht.after_revertEdit.after_respond _⟩
  | start => exact ⟨_, rfl, h.after_onTurn _ fun t ht => ht.after_startCommand⟩
  | stop => exact ⟨_, rfl, h.after_onTurn _ fun t ht => ht.after_stopCommand⟩
  | hold => exact ⟨_, rfl, h.after_onTurn _ fun t ht => ht.after_holdCommand⟩
  | resume => exact ⟨_, rfl, h.after_onTurn _ fun t ht => ht.after_resumeCommand⟩
  | pin p => exact ⟨_, rfl, h.after_onTurn _ fun t ht => ht.after_pinCommand p⟩
  | unpin => exact ⟨_, rfl, h.after_onTurn _ fun t ht => ht.after_unpinCommand⟩
  | excludeBranch b => exact ⟨_, rfl, h.after_onTurn _ fun t ht => ht.after_setExclusion b true⟩
  | includeBranch b => exact ⟨_, rfl, h.after_onTurn _ fun t ht => ht.after_setExclusion b false⟩
  | controlLinkByteArrival b =>
    exact ⟨_, rfl, h.congr (by simp [KeepsFrame])⟩

/-- Settles O60: a step on an empty queue idles, and the command at the front keeps the part consistent: each change of
what a record shows is published by the operation that makes it. -/
theorem everyStepKeepsTheRecordCurrent : Obligations.EveryStepKeepsTheRecordCurrent := by
  intro s t hstep h
  rw [← consistent_iff] at h ⊢
  unfold step at hstep
  split at hstep
  · cases hstep
    exact h
  · rename_i c rest _
    have hqueued : (s.withPending rest).Consistent :=
      h.congr (by simp [KeepsFrame])
    obtain ⟨u, hu, hconsistent⟩ := exec_consistent c hqueued
    rw [hu] at hstep
    cases hstep
    exact hconsistent

end Sys2Proof.Machine
end

section
/-! PROOFS. START, PIN and UNPIN (R156, R159): O22, O25. -/

namespace Sys2Proof.Machine

/-! ### START (R156) -/

theorem exec_start_of_turn {s t : State} (h : turn .start s = some t) : exec .start s = .next (startCommand t) := by
  simp only [exec, execStart, onTurn_of_some h]

theorem startCommand_of_running {t : State} (hx : t.link ≠ .offline) : startCommand t = respond .refusedState t :=
  if_pos hx

theorem startCommand_of_empty {t : State} (hx : t.link = .offline) (hcount : t.ladder.active.count = 0) :
    startCommand t = respond .refusedNoLadder t := by
  simp [startCommand, hx, hcount]

theorem startCommand_of_loaded {t : State} (hx : t.link = .offline) (hcount : t.ladder.active.count ≠ 0) :
    startCommand t = respond (.ok []) (startLink t) := by
  simp [startCommand, hx, hcount]

/-- START's change of link state, as the publication of the state that both engines leave (R114, R135, R155). -/
theorem startLink_eq (t : State) :
    startLink t = publish { t with
      link := .acquire .starting
      rae := { Rae.reset with counters := t.rae.counters }
      tae := ⟨0, .steady, none, false, t.params.attMin, 0, t.tae.counters⟩
      modem := (sendReceiveOrder none 0 t).modem
      control := t.control.afterRaising Event.stateChanged.flag } := by
  have hunfold : startLink t
      = publish (raise .stateChanged (taeStart (raeStart (t.withLink (.acquire .starting))))) := rfl
  rw [hunfold, raise_eq_withControl]
  rfl

/-- Settles O22: the two refusals, and the record published of the state that `startLink_eq` writes out. -/
theorem startEntersAcquire : Obligations.StartEntersAcquire := by
  intro s t h
  rw [exec_start_of_turn h]
  refine ⟨fun hx => by rw [startCommand_of_running hx], fun hx hcount => by rw [startCommand_of_empty hx hcount],
    fun hx hcount => ⟨startLink t, by rw [startCommand_of_loaded hx hcount], ?_⟩⟩
  have hrecord : (startLink t).RecordCurrent := publish_recordCurrent _
  have hlink : (startLink t).link = .acquire .starting := rfl
  have hslot : (startLink t).ladder.active.slot (startLink t).tae.c = t.ladder.active.slot 0 := rfl
  refine ⟨hlink, rfl, rfl, fun l => ?modem, ?control, rfl, hrecord, ?code, ?capacity, ?frame⟩
  case modem =>
    rw [startLink_eq]
    exact sendReceiveOrder_get none 0 t l
  case control => rw [startLink_eq]; simp
  case code => rw [hrecord]; simp [recordNow, hlink, LinkState.code]
  case capacity => rw [hrecord]; simp [recordNow, shownCapacity, hlink, hslot]
  case frame => rw [startLink_eq]; rfl

/-! ### PIN and UNPIN (R159) -/

theorem exec_pin_of_turn {p : Byte} {s t : State} (h : turn (.pin p) s = some t) :
    exec (.pin p) s = .next (pinCommand p t) := by
  simp only [exec, execPin, onTurn_of_some h]

theorem exec_unpin_of_turn {s t : State} (h : turn .unpin s = some t) : exec .unpin s = .next (unpinCommand t) := by
  simp only [exec, execUnpin, onTurn_of_some h]

/-- A change of link state that no block acts on: one event, one publication, and no alert (R155). -/
structure MovesLink (t v : State) (new : LinkState) : Prop where
  link : v.link = new
  alert : v.capacity.alert = t.capacity.alert
  generation : v.capacity.generation = t.capacity.generation + 1#16
  record : v.RecordCurrent
  control : v.control = t.control.afterRaising Event.stateChanged.flag
  frame : v = { t with link := v.link, capacity := v.capacity, control := v.control }

theorem changeLink_id_movesLink (new : LinkState) (t : State) : MovesLink t (changeLink new id t) new where
  link := rfl
  alert := publish_alert _
  generation := rfl
  record := publish_recordCurrent _
  control := changeLink_control ..
  frame := State.eq_of_blocks (by simp)

section

variable {p : Byte} {t : State}

theorem pinCommand_of_code (hp : 16 ≤ p.toNat) : pinCommand p t = respond .refusedFormat t := if_pos hp

theorem pinCommand_of_not_adapting (hp : p.toNat < 16) (hx : t.link.adapting = false) :
    pinCommand p t = respond .refusedState t := by
  simp [pinCommand, Nat.not_le.2 hp, hx]

theorem pinCommand_of_disabled (hp : p.toNat < 16) (hx : t.link.adapting = true)
    (hen : t.ladder.active.enabledAt p.toNat = false) : pinCommand p t = respond .refusedProfile t := by
  simp [pinCommand, Nat.not_le.2 hp, hx, hen]

theorem pinCommand_of_enabled (hp : p.toNat < 16) (hx : t.link.adapting = true)
    (hen : t.ladder.active.enabledAt p.toNat = true) :
    pinCommand p t = respond (.ok []) (if t.link = .pinned p.toNat then t else changeLink (.pinned p.toNat) id t) := by
  simp only [pinCommand, Nat.not_le.2 hp, hx, hen, if_false, Bool.not_true, Bool.false_eq_true]
  split <;> rfl

end

theorem unpinCommand_of_pinned {t : State} {q : Nat} (hx : t.link = .pinned q) :
    unpinCommand t = respond (.ok []) ((changeLink .adaptive id t).withUnpinned true) := by
  simp [unpinCommand, hx]

theorem unpinCommand_of_not_pinned {t : State} (hx : ∀ q, t.link ≠ .pinned q) :
    unpinCommand t = respond .refusedState t := by
  unfold unpinCommand
  split
  · rename_i hq
    exact absurd hq (hx _)
  · rfl

/-- Settles O25: the checks of PIN in order, and the change of link state of both commands. -/
theorem pinAndUnpinMoveTheLink : Obligations.PinAndUnpinMoveTheLink := by
  refine ⟨fun p s t h => ?pin, fun s t h => ?unpin⟩
  case pin =>
    rw [exec_pin_of_turn h]
    refine ⟨fun hp => by rw [pinCommand_of_code hp], fun hp hx => ?_, fun hp hx hen => ?_,
      fun hp hcount hen hx => ?_, fun hp hcount hen hx => ?_⟩
    · have hadapting : t.link.adapting = false := by
        obtain hx | hx | ⟨w, hx⟩ := hx <;> rw [hx] <;> rfl
      rw [pinCommand_of_not_adapting hp hadapting]
    · rw [pinCommand_of_disabled hp ((LinkState.adapting_iff _).2 hx)
        (by rwa [← Bool.not_eq_true, Ladder.enabledAt_iff])]
    · rw [pinCommand_of_enabled hp ((LinkState.adapting_iff _).2 (.inr ⟨_, hx⟩))
        ((Ladder.enabledAt_iff _ _).2 ⟨hcount, hen⟩), if_pos hx]
    · have hmoved := changeLink_id_movesLink (.pinned p.toNat) t
      have hother : t.link ≠ .pinned p.toNat := by
        obtain hx | ⟨q, hx, hq⟩ := hx
        · simp [hx]
        · simp [hx, hq]
      have hadapting : t.link.adapting = true :=
        (LinkState.adapting_iff _).2 (hx.imp_right fun ⟨q, hx, _⟩ => ⟨q, hx⟩)
      refine ⟨changeLink (.pinned p.toNat) id t, ?_, hmoved.link, hmoved.alert, hmoved.generation, hmoved.record,
        hmoved.control, hmoved.frame⟩
      rw [pinCommand_of_enabled hp hadapting ((Ladder.enabledAt_iff _ _).2 ⟨hcount, hen⟩), if_neg hother]
  case unpin =>
    rw [exec_unpin_of_turn h]
    refine ⟨fun hx => by rw [unpinCommand_of_not_pinned hx], fun q hx => ?_⟩
    have hmoved := changeLink_id_movesLink .adaptive t
    exact ⟨(changeLink .adaptive id t).withUnpinned true, by rw [unpinCommand_of_pinned hx], hmoved.link, hmoved.alert,
      hmoved.generation, hmoved.record, hmoved.control, congrArg (State.withUnpinned · true) hmoved.frame⟩

end Sys2Proof.Machine
end

section
/-! PROOFS. The RAE's prediction and RSL rule (R93, R103) and the merge (R102): O48, O50. -/

namespace Sys2Proof.Machine

/-! ### The prediction and the RSL rule (R93, R103) -/

/-- A positive slope is not read ahead. -/
theorem predict_of_rising {x : Estimate} (horizon : Nat) (h : 0 ≤ x.slope) : predict horizon x = min 500 x.snr := by
  rw [predict, if_neg (not_lt.2 h), clampInt_eq _ _ _ (by decide)]
  have hmax : (Config.snrMax : Int) = 500 := rfl
  omega

theorem predict_of_falling {x : Estimate} (horizon : Nat) (h : x.slope < 0) :
    (predict horizon x : Int) = max 0 (min 500 ((x.snr : Int) + x.slope * horizon / 10)) := by
  rw [predict, if_pos h, clampInt_eq _ _ _ (by decide)]
  have hmax : (Config.snrMax : Int) = 500 := rfl
  omega

/-- The floor of R93 is the division of the model. -/
theorem floor_prediction_eq (slope : Int) (horizon : Nat) :
    Int.floor ((slope * horizon : ℚ) / 10) = slope * horizon / 10 := by
  have hfloor := Rat.floor_intCast_div_natCast (slope * horizon) 10
  push_cast at hfloor
  exact hfloor

/-- Settles O48: the slope's sign decides the prediction, and the RSL rule is its table. -/
theorem predictionAndPowerRules : Obligations.PredictionAndPowerRules := by
  refine ⟨fun horizon x => ⟨predict_of_rising horizon, fun h => ?_⟩, fun p x => ⟨fun hoff => ?_, fun hon hx => ?_,
    fun g hon hx => ⟨fun hlow => ?_, fun hlow hhigh => ?_, fun hlow hhigh => ?_⟩⟩⟩
  · rw [floor_prediction_eq, predict_of_falling horizon h]
  · simp [rslRule, hoff]
  · simp [rslRule, hx, hon]
  · simp [rslRule, hx, hon, hlow]
  · simp [rslRule, hx, hon, hlow.not_gt, hhigh]
  · simp [rslRule, hx, hon, hlow.not_gt, hhigh.not_gt]

/-! ### The merge (R102) -/

theorem moreUrgent_iff (k standing : Request) :
    moreUrgent k standing = true ↔ (k.kind = .emergency ∧ standing.kind = .normal)
      ∨ (k.kind = standing.kind ∧ k.profile < standing.profile) := by
  simp [moreUrgent]

/-- Settles O50: the rows of R102 by whether the standing request is downward and the candidate more urgent. -/
theorem candidatesMerge : Obligations.CandidatesMerge := by
  intro e standing downward hdownward
  rw [← Request.downward_iff] at hdownward
  refine ⟨fun hd => ?_, fun hd => ?_, fun k urgent _ hurgent => ?_⟩
  · exact if_pos (hdownward.1 hd)
  · exact if_neg (mt hdownward.2 hd)
  · rw [← moreUrgent_iff] at hurgent
    refine ⟨fun hd hu => ?_, fun hd hu => ?_, fun hd => ?_⟩
    · have hless : moreUrgent k standing = false := by simpa using mt hurgent.2 hu
      simp [mergeRequest, hdownward.1 hd, hless]
    · simp [mergeRequest, hurgent.1 hu]
    · have hup : standing.downward e = false := by simpa using mt hdownward.2 hd
      simp [mergeRequest, hup]

end Sys2Proof.Machine
end

section
/-! PROOFS. The RAE's evaluation outside adaptive operation, and its stall counter (R92 to R96, R105, R106): O53. -/

namespace Sys2Proof.Machine


/-- Outside adaptive operation, or with a peer that does not adapt, the request asks for one profile (R94 to R96). -/
def directRequest (x : LinkState) (e : Nat) : Request :=
  match x with
  | .acquire _ => askFor 0 e
  | .fixed => askFor 0 e
  | .pinned p => askFor p e
  | .adaptive => ⟨e, .none⟩
  | .offline => ⟨e, .none⟩

theorem askFor_zero (e : Nat) : askFor 0 e = if e = 0 then ⟨0, .none⟩ else ⟨0, .normal⟩ := by
  unfold askFor
  split
  · rename_i he
    rw [he]
  · rfl

theorem decideRequest_of_direct {s : State} (hrun : s.link ≠ .offline)
    (h : s.link ≠ .adaptive ∨ s.peer.fields.adapt = false) :
    decideRequest s = s.rae.direct (directRequest s.link s.rae.e) (rslRule s.params s.selector.estimate) := by
  unfold decideRequest
  cases hx : s.link with
  | offline => exact absurd hx hrun
  | adaptive =>
    have hadapt : s.peer.fields.adapt = false := h.resolve_left fun ne => ne hx
    simp [hadapt, directRequest]
  | _ => rfl

/-- A decision leaves alone what no step of the evaluation sets. -/
theorem decideRequest_eq (s : State) :
    decideRequest s = { s.rae with
      request := (decideRequest s).request
      power := (decideRequest s).power
      deferred := (decideRequest s).deferred
      dwell := (decideRequest s).dwell } := by
  unfold decideRequest
  split
  case h_5 => split <;> rfl
  all_goals rfl

/-- What the RAE holds after an evaluation: the decision on the state as it begins, and the stall counter (R92, R106). -/
def evaluatedRae (u : State) : Rae := decideRequest (evaluationBegins u)

theorem evaluatedRae_stall (u : State) :
    (evaluatedRae u).stall = u.rae.stall ∧ (evaluatedRae u).stallReported = u.rae.stallReported := by
  rw [evaluatedRae, decideRequest_eq]
  exact ⟨rfl, rfl⟩

theorem evaluatedRae_begun (u : State) :
    (evaluatedRae u).timeAtProfile = succSat Config.dwellMax u.rae.timeAtProfile
      ∧ (evaluatedRae u).predicted = u.selector.estimate.map (predict u.params.horizon) := by
  rw [evaluatedRae, decideRequest_eq]
  exact ⟨rfl, rfl⟩

theorem evaluatedRae_of_direct {u : State} (hrun : u.link ≠ .offline)
    (h : u.link ≠ .adaptive ∨ u.peer.fields.adapt = false) :
    (evaluatedRae u).request = directRequest u.link u.rae.e
      ∧ (evaluatedRae u).power = rslRule u.params u.selector.estimate
      ∧ (evaluatedRae u).deferred = false ∧ (evaluatedRae u).dwell = 0 := by
  rw [evaluatedRae, decideRequest_of_direct (by simpa using hrun) (by simpa using h)]
  simp only [evaluationBegins_frame]
  exact ⟨rfl, rfl, rfl, rfl⟩

theorem requesting_iff (r : Rae) : r.requesting = true ↔ r.commit = none ∧ r.request.kind ≠ .none := by
  simp [Rae.requesting]

theorem stallReached_iff (u : State) :
    stallReached (evaluationDecides u) = true ↔ (evaluatedRae u).requesting = true
      ∧ u.params.stallLimit ≤ min 4096 (u.rae.stall + 1) ∧ u.rae.stallReported = false := by
  obtain ⟨hstall, hreported⟩ := evaluatedRae_stall u
  have hrae : (evaluationDecides u).rae = evaluatedRae u := rfl
  have hlimit : succSat Config.stallMax u.rae.stall = min 4096 (u.rae.stall + 1) := succSat_eq_min ..
  unfold stallReached
  rw [hrae, hstall, hreported, hlimit]
  simp [and_assoc]

/-- The stall counter while the RAE is REQUESTING (R106). -/
theorem raeEvaluate_of_requesting {u : State} (hrun : u.link ≠ .offline)
    (h : (evaluatedRae u).requesting = true) :
    (raeEvaluate u).rae = { evaluatedRae u with
        stall := min 4096 (u.rae.stall + 1)
        stallReported := u.rae.stallReported || stallReached (evaluationDecides u)
        overflowNoted := false }
      ∧ (raeEvaluate u).control = u.control.afterRaising
        (if stallReached (evaluationDecides u) then Event.requestStalled.flag else 0#21) := by
  obtain ⟨hstall, hreported⟩ := evaluatedRae_stall u
  have hrae : (evaluationDecides u).rae = evaluatedRae u := rfl
  have hlimit : succSat Config.stallMax u.rae.stall = min 4096 (u.rae.stall + 1) := succSat_eq_min ..
  rw [raeEvaluate, if_neg hrun, dropOverflow_rae, stallStep, hrae, if_pos h]
  exact ⟨by simp [hstall, hreported, hlimit], by simp [raiseIf_control]⟩

theorem raeEvaluate_of_not_requesting {u : State} (hrun : u.link ≠ .offline)
    (h : (evaluatedRae u).requesting = false) :
    (raeEvaluate u).rae = { evaluatedRae u with stall := 0, stallReported := false, overflowNoted := false }
      ∧ (raeEvaluate u).control = u.control := by
  have hrae : (evaluationDecides u).rae = evaluatedRae u := rfl
  rw [raeEvaluate, if_neg hrun, dropOverflow_rae, stallStep, hrae, if_neg (by simp [h])]
  exact ⟨rfl, by simp⟩

/-- What every evaluation outside OFFLINE leaves of the state that the selector hands over. -/
theorem raeEvaluate_eq {u : State} (hrun : u.link ≠ .offline) :
    raeEvaluate u = { u with
      rae := { u.rae with
        request := (raeEvaluate u).rae.request
        power := (raeEvaluate u).rae.power
        deferred := (raeEvaluate u).rae.deferred
        dwell := (raeEvaluate u).rae.dwell
        timeAtProfile := (raeEvaluate u).rae.timeAtProfile
        overflowNoted := (raeEvaluate u).rae.overflowNoted
        stall := (raeEvaluate u).rae.stall
        stallReported := (raeEvaluate u).rae.stallReported
        predicted := (raeEvaluate u).rae.predicted }
      control := (raeEvaluate u).control
      unpinned := false } := by
  obtain ⟨n, reported, hrae⟩ := raeEvaluate_rae hrun
  have hkept : (raeEvaluate u).rae = { u.rae with
      request := (raeEvaluate u).rae.request
      power := (raeEvaluate u).rae.power
      deferred := (raeEvaluate u).rae.deferred
      dwell := (raeEvaluate u).rae.dwell
      timeAtProfile := (raeEvaluate u).rae.timeAtProfile
      overflowNoted := (raeEvaluate u).rae.overflowNoted
      stall := (raeEvaluate u).rae.stall
      stallReported := (raeEvaluate u).rae.stallReported
      predicted := (raeEvaluate u).rae.predicted } := by
    rw [hrae, decideRequest_eq]
    rfl
  exact State.eq_of_blocks (by simp [raeEvaluate_unpinned, hrun, ← hkept])

theorem exec_requestStalled (s : State) :
    exec .requestStalled s = .next
      (if decide (s.link ≠ .offline) && stallReached (evaluationDecides (selectorEvaluate s)) then
        raeEvaluate (selectorEvaluate s) else s) := rfl

/-- Settles O53: the decision outside adaptive operation is written out by `evaluatedRae_of_direct`, and the stall counter
by whether the RAE is REQUESTING after it. -/
theorem evaluationOutsideAdaptive : Obligations.EvaluationOutsideAdaptive := by
  intro s u hu
  have hlink : u.link = s.link := by simp [hu]
  have hparams : u.params = s.params := by simp [hu]
  have hstalled : exec .requestStalled s = .next
      (if decide (u.link ≠ .offline) && stallReached (evaluationDecides u) then raeEvaluate u else s) := by
    rw [exec_requestStalled, ← hu, hlink]
  rw [← hlink, ← hparams, exec_evaluation, ← hu]
  refine ⟨fun hx => ⟨by rw [raeEvaluate, if_pos hx], by simp [hstalled, hx]⟩, fun hrun => ⟨raeEvaluate u, rfl, rfl, ?_⟩⟩
  obtain ⟨n, reported, hrae⟩ := raeEvaluate_rae hrun
  rw [← evaluatedRae] at hrae
  obtain ⟨htime, hpredicted⟩ := evaluatedRae_begun u
  have hcommit : (raeEvaluate u).rae.commit = (evaluatedRae u).commit := by rw [hrae]
  have hrequest : (raeEvaluate u).rae.request = (evaluatedRae u).request := by rw [hrae]
  have hrequesting : (evaluatedRae u).requesting = true
      ↔ (raeEvaluate u).rae.commit = none ∧ (raeEvaluate u).rae.request.kind ≠ .none := by
    rw [requesting_iff, hcommit, hrequest]
  refine ⟨by rw [hrae, htime]; exact succSat_eq_min .., by rw [hrae, hpredicted], by rw [hrae], fun hx => ?holding,
    fun p hx => ?pinned, fun hx hadapt => ?unadaptive, fun hdirect => ?settled, fun hnone hkind => ?requesting,
    fun hidle => ?idle, raeEvaluate_eq hrun⟩
  case holding =>
    obtain ⟨w, hx⟩ | hx := hx
    · rw [hrequest, (evaluatedRae_of_direct hrun (.inl (by simp [hx]))).1, hx, directRequest, askFor_zero]
    · rw [hrequest, (evaluatedRae_of_direct hrun (.inl (by simp [hx]))).1, hx, directRequest, askFor_zero]
  case pinned => rw [hrequest, (evaluatedRae_of_direct hrun (.inl (by simp [hx]))).1, hx, directRequest, askFor]
  case unadaptive => rw [hrequest, (evaluatedRae_of_direct hrun (.inr hadapt)).1, hx, directRequest]
  case settled =>
    rw [hrae]
    exact (evaluatedRae_of_direct hrun hdirect).2
  case requesting =>
    have h := hrequesting.2 ⟨hnone, hkind⟩
    obtain ⟨hafter, hcontrol⟩ := raeEvaluate_of_requesting hrun h
    have hreached := stallReached_iff u
    have hstall : (raeEvaluate u).rae.stall = min 4096 (u.rae.stall + 1) := by rw [hafter]
    rw [hstall, hcontrol]
    refine ⟨rfl, fun hlimit hfirst => ?_, fun hearly => ?_⟩
    · have hraised := hreached.2 ⟨h, hlimit, hfirst⟩
      exact ⟨by rw [hafter, hraised, Bool.or_true], by rw [if_pos hraised], by simp [hstalled, hraised, hrun]⟩
    · have hquiet : stallReached (evaluationDecides u) = false := by
        rw [← Bool.not_eq_true, hreached]
        rintro ⟨-, hlimit, hfirst⟩
        obtain hshort | hreported := hearly
        · omega
        · rw [hreported] at hfirst
          cases hfirst
      exact ⟨by rw [hafter, hquiet, Bool.or_false], by simp [hquiet], by simp [hstalled, hquiet]⟩
  case idle =>
    have h : (evaluatedRae u).requesting = false := by
      rw [← Bool.not_eq_true, hrequesting]
      rintro ⟨hnone, hkind⟩
      exact hidle.elim (fun ne => ne hnone) hkind
    obtain ⟨hafter, hcontrol⟩ := raeEvaluate_of_not_requesting hrun h
    have hquiet : stallReached (evaluationDecides u) = false := by
      rw [← Bool.not_eq_true, stallReached_iff, h]
      simp
    exact ⟨by rw [hafter], by rw [hafter], hcontrol, by simp [hstalled, hquiet]⟩

end Sys2Proof.Machine
end

section
/-! PROOFS. The header that completes the follow count (R112, R113): O42. -/

namespace Sys2Proof.Machine


theorem exec_headerFollow_of_arrival {l : Branch} {m : List Byte} {s : State} {r : Report}
    (hup : (s.modem.get l).up = true) (hr : receiveReport m = some r) :
    exec (.headerFollow l m) s = .next (if reportFollows l s r then handleReport l r s else s) := by
  simp only [exec, execHeaderFollow, reportWhen_of_arrival hup hr]

theorem completes_eq_false {r : Rae} {x : Header}
    (h : ∀ k, r.commit = some k → ¬ ((x.number - k.switch).toNat < 32768 ∧ x.profile = k.profile)) :
    completes r x = false := by
  unfold completes
  split
  · rename_i k hk
    simpa [atOrAfter] using h k hk
  · rfl

theorem headerNew_of_last {r : Rae} {m : Superframe}
    (h : ∀ k, r.lastHeader = some k → ((m - k).toNat < 32768 ∧ m ≠ k) ∨ 64 < (k - m).toNat) :
    headerNew r m = true := by
  unfold headerNew
  split
  · rfl
  · rename_i k hk
    have hwindow : Config.headerWindow = 64 := rfl
    simpa [isAfter, atOrAfter, hwindow] using h k hk

/-- A header that completes nothing differs from the expected profile, unless it names *e* with no switch behind it. -/
theorem ne_expectedFor {r : Rae} {x : Header}
    (hincomplete : ∀ k, r.commit = some k → ¬ ((x.number - k.switch).toNat < 32768 ∧ x.profile = k.profile))
    (hother : x.profile = r.e → ∃ k, r.commit = some k ∧ (x.number - k.switch).toNat < 32768) :
    x.profile ≠ r.expectedFor x.number := by
  unfold Rae.expectedFor
  cases hk : r.commit with
  | some k =>
    simp only [atOrAfter_iff]
    split
    · rename_i hdue
      exact fun he => hincomplete k hk ⟨hdue, he⟩
    · rename_i hearly
      intro he
      obtain ⟨k', hk', hdue⟩ := hother he
      rw [hk] at hk'
      cases hk'
      exact hearly hdue
  | none =>
    intro he
    obtain ⟨k, hk', -⟩ := hother he
    rw [hk] at hk'
    cases hk'

/-- A header that completes no commit, is new and takes the follow count to its limit is followed. -/
theorem takeHeader_of_followed {s : State} {x : Header} {n : Nat} (hc : completes s.rae x = false)
    (hnew : headerNew s.rae x.number = true) (hn : followCounted s x = some n) (hlimit : s.params.followCount ≤ n) :
    headerFollows s x = true ∧ takeHeader x s = followHeader x.profile x.number (countHeader x s) := by
  have hfollows : headerFollows s x = true := by simp [headerFollows, hc, hnew, hn, hlimit]
  exact ⟨hfollows, by simp [takeHeader, hc, hnew, hfollows]⟩

/-- The RAE after a follow: the profile of the header, no commit, and the counts started again (R105, R113). -/
theorem followHeader_countHeader_rae {s : State} {x : Header} {n : Nat} (hn : followCounted s x = some n) :
    (followHeader x.profile x.number (countHeader x s)).rae = { s.rae with
      e := x.profile
      commit := none
      follow := 0
      candidate := none
      lastHeader := some x.number
      timeAtProfile := if x.profile = s.rae.e then s.rae.timeAtProfile else 0
      dwell := if x.profile = s.rae.e then s.rae.dwell else 0
      request := if s.rae.request.profile = x.profile then ⟨x.profile, .none⟩ else s.rae.request
      counters := { s.rae.counters with follows := s.rae.counters.follows + 1#32 } } := by
  rw [countHeader_of_counted hn]
  by_cases hq : s.rae.request.profile = x.profile
  · by_cases he : x.profile = s.rae.e
    · simp [followHeader, Request.settle, hq, he]
    · simp [followHeader, Request.settle, Rae.arrivedAt, hq, he]
  · by_cases he : x.profile = s.rae.e
    · simp [followHeader, Request.settle, ← he, hq]
    · simp [followHeader, Request.settle, Rae.arrivedAt, hq, he]

theorem followHeader_control (p : Nat) (m : Superframe) (s : State) :
    (followHeader p m s).control = s.control.afterRaising Event.profileFollowed.flag := by
  simp [followHeader, raise_control]

theorem followHeader_modem (p : Nat) (m : Superframe) (s : State) (l : Branch) :
    (followHeader p m s).modem.get l =
      { s.modem.get l with
        waiting := if (s.modem.get l).up then
            (s.modem.get l).waiting ++ [.receive ⟨some (m + 1#16), p, (s.ladder.active.slot p).modulation,
              (s.ladder.active.slot p).codeClass⟩]
          else (s.modem.get l).waiting } := by
  simp only [followHeader, publish_frame, sendReceiveOrder_get]
  simp [receiveOrder, plusLead]

/-- Settles O42: the report goes on from `s3` as `takeHeader_of_followed` says. -/
theorem headersAreFollowed : Obligations.HeadersAreFollowed := by
  intro l m s s3 r h n hup hr hlocked hheader hs3 hrun hin hen hincomplete hother hnew hn hlimit
  have hvalid : r.validHeader = some h := by simp [Report.validHeader, hlocked, hheader]
  have hcompletes := completes_eq_false hincomplete
  have hheaderNew := headerNew_of_last hnew
  have hexpected := ne_expectedFor hincomplete hother
  have hcounted : followCounted s3 h = some n := by rw [followCounted_of_candidate hexpected hen, hn]
  obtain ⟨hfollows, htaken⟩ := takeHeader_of_followed hcompletes hheaderNew hcounted hlimit
  have hreport : handleReport l r s = followHeader h.profile h.number (countHeader h s3) := by
    simp only [handleReport, headerStep, hvalid, ← hs3]
    rw [raeHeader_of_taken h hrun hin, htaken]
  have hcase : reportFollows l s r = true := by
    simp [reportFollows, hvalid, ← hs3, hfollows, (headerTaken_iff l s3).2 ⟨hrun, hin⟩]
  refine ⟨_, by rw [exec_headerFollow_of_arrival hup hr, hcase, if_pos rfl, hreport],
    by rw [exec_branchReport_of_arrival hup hr, hreport], followHeader_countHeader_rae hcounted, fun k => ?_, ?_, ?_,
    publish_recordCurrent _, ?_⟩
  · simpa using followHeader_modem h.profile h.number (countHeader h s3) k
  · simp [followHeader_control]
  · simp [followHeader]
  · simp

end Sys2Proof.Machine
end

section
/-! SUPPORT. Replies, Capacity Alerts and commits, field by field (R129, R148 to R150). -/

namespace Sys2Proof.Machine

/-! ### A reply (R148, R150) -/

theorem reply_sent (r : Reply) (s : State) :
    (reply r s).sent =
      if s.capacity.held = none then { s.sent with capacity := s.sent.capacity ++ [r.bytes] } else s.sent := by
  obtain ⟨hheld, h⟩ | ⟨hheld, h⟩ := reply_cases r s <;> simp [h, hheld]

theorem reply_capacity (r : Reply) (s : State) :
    (reply r s).capacity = { s.capacity with
      replies := if s.capacity.held = none then s.capacity.replies else s.capacity.replies ++ [r] } := by
  obtain ⟨hheld, h⟩ | ⟨hheld, h⟩ := reply_cases r s
  · simp only [h, if_pos hheld, sendCapacity_frame]
  · simp only [h, if_neg hheld, State.withCapacity_capacity]

/-! ### A Capacity Alert (R149) -/

/-- What placing an alert can do: it leaves at once, waits for the end of the read, or is discarded. -/
theorem placeAlert_cases (x : CapacityAlert) (s : State) :
    (s.capacity.framing = true ∧ s.capacity.held = none ∧ placeAlert x s = sendCapacity x.bytes s)
      ∨ (s.capacity.framing = true ∧ s.capacity.held ≠ none
        ∧ placeAlert x s = s.withCapacity { s.capacity with alert := some x })
      ∨ (s.capacity.framing = false ∧ placeAlert x s = s) := by
  cases hframing : s.capacity.framing <;> cases hheld : s.capacity.held <;> simp [placeAlert, hframing, hheld]

theorem placeAlert_sent (x : CapacityAlert) (s : State) :
    (placeAlert x s).sent =
      if s.capacity.framing = true ∧ s.capacity.held = none then
        { s.sent with capacity := s.sent.capacity ++ [x.bytes] }
      else s.sent := by
  obtain ⟨hframing, hheld, h⟩ | ⟨hframing, hheld, h⟩ | ⟨hframing, h⟩ := placeAlert_cases x s
  · simp [h, hframing, hheld]
  · simp [h, hheld]
  · simp [h, hframing]

theorem placeAlert_capacity (x : CapacityAlert) (s : State) :
    (placeAlert x s).capacity = { s.capacity with
      alert := if s.capacity.framing = true ∧ s.capacity.held ≠ none then some x else s.capacity.alert } := by
  obtain ⟨-, hheld, h⟩ | ⟨hframing, hheld, h⟩ | ⟨hframing, h⟩ := placeAlert_cases x s
  · rw [h, if_neg fun hwaits => hwaits.2 hheld]
    simp
  · rw [h, if_pos ⟨hframing, hheld⟩]
    simp
  · rw [h, if_neg (by simp [hframing])]

/-- The alert that is formed on the newest record (R149). -/
def alertOf (p : Nat) (switch : Option Superframe) (s : State) : CapacityAlert :=
  ⟨p, (s.ladder.active.slot p).capacity, switch, (s.capacity.buffer s.capacity.newest).generation⟩

theorem requestAlert_eq (p : Nat) (switch : Option Superframe) (s : State) :
    requestAlert p switch s = placeAlert (alertOf p switch s) s := rfl

theorem publish_newestGeneration (s : State) :
    ((publish s).capacity.buffer (publish s).capacity.newest).generation = s.capacity.generation + 1#16 := by
  simp [recordNow]

/-- An alert behind a publication carries its generation. -/
theorem alertOf_publish (p : Nat) (switch : Option Superframe) (s : State) :
    alertOf p switch (publish s) = ⟨p, (s.ladder.active.slot p).capacity, switch, s.capacity.generation + 1#16⟩ := by
  simp only [alertOf, publish_newestGeneration, publish_frame]

/-- A reply changes nothing that an alert is formed from. -/
theorem alertOf_reply (p : Nat) (switch : Option Superframe) (r : Reply) (s : State) :
    alertOf p switch (reply r s) = alertOf p switch s := by
  simp [alertOf]

/-! ### Commits (R129) -/

/-- The TAE with a commit to `p` recorded (R129). -/
def Tae.committing (t : Tae) (p lead : Nat) (confirmed emergency : Bool) (n : Superframe) : Tae :=
  { t with
    state := .committed ⟨p, plusLead n lead⟩
    counters := t.counters.countCommit (decide (p < t.c)) confirmed emergency }

theorem TaeCounters.countCommit_eq (k : TaeCounters) (p c : Nat) (confirmed emergency : Bool) :
    k.countCommit (decide (p < c)) confirmed emergency = { k with
      unconfirmedDownshifts := k.unconfirmedDownshifts + (if p < c ∧ confirmed = false then 1#32 else 0#32)
      emergencies := k.emergencies + (if p < c ∧ emergency = true then 1#32 else 0#32) } := by
  simp [TaeCounters.countCommit]

theorem recordCommit_of_slot {s : State} {n : Superframe} (hn : s.tae.lastSlot = some n) (p lead : Nat)
    (confirmed emergency : Bool) :
    recordCommit p lead confirmed emergency s
      = publish (s.withTae (s.tae.committing p lead confirmed emergency n)) := by
  simp only [recordCommit, hn, Tae.committing]

theorem commitAlert_of_committed {s : State} {k : Commit} (hk : s.tae.state = .committed k) :
    commitAlert s = if k.profile < s.tae.c then requestAlert k.profile (some k.switch) s else s := by
  simp only [commitAlert, hk]

theorem commitAlert_sent {s : State} {k : Commit} (hk : s.tae.state = .committed k) :
    (commitAlert s).sent =
      if k.profile < s.tae.c ∧ s.capacity.framing = true ∧ s.capacity.held = none then
        { s.sent with capacity := s.sent.capacity ++ [(alertOf k.profile (some k.switch) s).bytes] }
      else s.sent := by
  rw [commitAlert_of_committed hk, ite_and]
  split
  · rw [requestAlert_eq, placeAlert_sent]
  · rfl

theorem commitAlert_alert {s : State} {k : Commit} (hk : s.tae.state = .committed k) :
    (commitAlert s).capacity.alert =
      if k.profile < s.tae.c ∧ s.capacity.framing = true ∧ s.capacity.held ≠ none then
        some (alertOf k.profile (some k.switch) s)
      else s.capacity.alert := by
  rw [commitAlert_of_committed hk, ite_and]
  split
  · rw [requestAlert_eq, placeAlert_capacity]
  · rfl

/-- A commit with *n*_last set: recorded and published, and announced when it is downward. -/
theorem makeCommit_of_slot {s : State} {n : Superframe} (hn : s.tae.lastSlot = some n) (p lead : Nat)
    (confirmed emergency : Bool) :
    makeCommit p lead confirmed emergency s =
      if p < s.tae.c then
        requestAlert p (some (plusLead n lead)) (publish (s.withTae (s.tae.committing p lead confirmed emergency n)))
      else publish (s.withTae (s.tae.committing p lead confirmed emergency n)) := by
  rw [makeCommit, recordCommit_of_slot hn,
    commitAlert_of_committed (k := ⟨p, plusLead n lead⟩) (by simp [Tae.committing])]
  simp [Tae.committing]

section

variable {s : State} {n : Superframe} (hn : s.tae.lastSlot = some n) (p lead : Nat) (confirmed emergency : Bool)
include hn

theorem makeCommit_tae :
    (makeCommit p lead confirmed emergency s).tae = s.tae.committing p lead confirmed emergency n := by
  rw [makeCommit_of_slot hn]
  split <;> simp

theorem makeCommit_generation :
    (makeCommit p lead confirmed emergency s).capacity.generation = s.capacity.generation + 1#16 := by
  rw [makeCommit_of_slot hn]
  split <;> simp

theorem makeCommit_sent :
    (makeCommit p lead confirmed emergency s).sent =
      if p < s.tae.c ∧ s.capacity.framing = true ∧ s.capacity.held = none then
        { s.sent with capacity := s.sent.capacity ++ [CapacityAlert.bytes
          ⟨p, (s.ladder.active.slot p).capacity, some (plusLead n lead), s.capacity.generation + 1#16⟩] }
      else s.sent := by
  rw [makeCommit, recordCommit_of_slot hn,
    commitAlert_sent (k := ⟨p, plusLead n lead⟩) (by simp [Tae.committing]), alertOf_publish]
  simp [Tae.committing]

theorem makeCommit_alert :
    (makeCommit p lead confirmed emergency s).capacity.alert =
      if p < s.tae.c ∧ s.capacity.framing = true ∧ s.capacity.held ≠ none then
        some ⟨p, (s.ladder.active.slot p).capacity, some (plusLead n lead), s.capacity.generation + 1#16⟩
      else s.capacity.alert := by
  rw [makeCommit, recordCommit_of_slot hn,
    commitAlert_alert (k := ⟨p, plusLead n lead⟩) (by simp [Tae.committing]), alertOf_publish]
  simp [Tae.committing]

end

/-- The alert of a commit, by the state of the Capacity Link (R129, R149). -/
theorem makeCommit_placesAlert {s : State} {n : Superframe} (hn : s.tae.lastSlot = some n) (p lead : Nat)
    (confirmed emergency : Bool) :
    (p < s.tae.c → s.capacity.framing = true → s.capacity.held = none →
      (makeCommit p lead confirmed emergency s).sent = { s.sent with
        capacity := s.sent.capacity ++ [CapacityAlert.bytes
          ⟨p, (s.ladder.active.slot p).capacity, some (plusLead n lead), s.capacity.generation + 1#16⟩] }
        ∧ (makeCommit p lead confirmed emergency s).capacity.alert = s.capacity.alert)
    ∧ (p < s.tae.c → s.capacity.framing = true → s.capacity.held ≠ none →
      (makeCommit p lead confirmed emergency s).sent = s.sent
        ∧ (makeCommit p lead confirmed emergency s).capacity.alert = some
          ⟨p, (s.ladder.active.slot p).capacity, some (plusLead n lead), s.capacity.generation + 1#16⟩)
    ∧ ((s.tae.c ≤ p ∨ s.capacity.framing = false) →
      (makeCommit p lead confirmed emergency s).sent = s.sent
        ∧ (makeCommit p lead confirmed emergency s).capacity.alert = s.capacity.alert) := by
  rw [makeCommit_sent hn, makeCommit_alert hn]
  refine ⟨fun hdown hframing hheld => by simp [hdown, hframing, hheld],
    fun hdown hframing hheld => by simp [hdown, hframing, hheld], fun hdiscarded => ?_⟩
  have hnone : ¬ (p < s.tae.c ∧ s.capacity.framing = true) := by
    rintro ⟨hdown, hframing⟩
    simp [hframing, Nat.not_le.2 hdown] at hdiscarded
  exact ⟨if_neg fun ⟨hdown, hframing, _⟩ => hnone ⟨hdown, hframing⟩,
    if_neg fun ⟨hdown, hframing, _⟩ => hnone ⟨hdown, hframing⟩⟩

/-- A reply shows no record and changes none. -/
theorem reply_recordCurrent {s : State} (h : s.RecordCurrent) (r : Reply) : (reply r s).RecordCurrent :=
  recordCurrent_congr h (recordNow_congr (by simp) (by simp) (by simp) (by simp)) (by simp)

/-- An alert shows no record and changes none. -/
theorem commitAlert_recordCurrent {s : State} (h : s.RecordCurrent) : (commitAlert s).RecordCurrent :=
  recordCurrent_congr h (recordNow_congr (by simp) (by simp) (by simp) (by simp)) (by simp)

theorem makeCommit_recordCurrent {s : State} {n : Superframe} (hn : s.tae.lastSlot = some n) (p lead : Nat)
    (confirmed emergency : Bool) : (makeCommit p lead confirmed emergency s).RecordCurrent := by
  rw [makeCommit, recordCommit_of_slot hn]
  exact commitAlert_recordCurrent (publish_recordCurrent _)

/-! ### What an alert or a commit leaves as it is -/

/-- A commit leaves of the TAE all but its state and its counters. -/
theorem recordCommit_taeKept (p lead : Nat) (x y : Bool) (s : State) :
    (recordCommit p lead x y s).tae.c = s.tae.c
      ∧ (recordCommit p lead x y s).tae.lastSlot = s.tae.lastSlot
      ∧ (recordCommit p lead x y s).tae.fallbackOwed = s.tae.fallbackOwed
      ∧ (recordCommit p lead x y s).tae.attenuation = s.tae.attenuation
      ∧ (recordCommit p lead x y s).tae.slew = s.tae.slew := by
  unfold recordCommit
  split <;> simp

@[simp] theorem requestAlert_kept (p : Nat) (switch : Option Superframe) (s : State) :
    (requestAlert p switch s).capacity.held = s.capacity.held
      ∧ (requestAlert p switch s).capacity.framing = s.capacity.framing
      ∧ (requestAlert p switch s).capacity.replies = s.capacity.replies := by
  simp [requestAlert_eq, placeAlert_capacity]

@[simp] theorem commitAlert_kept (s : State) :
    (commitAlert s).capacity.held = s.capacity.held ∧ (commitAlert s).capacity.framing = s.capacity.framing
      ∧ (commitAlert s).capacity.replies = s.capacity.replies := by
  unfold commitAlert
  (repeat' split) <;> simp

@[simp] theorem recordCommit_kept (p lead : Nat) (x y : Bool) (s : State) :
    (recordCommit p lead x y s).capacity.held = s.capacity.held
      ∧ (recordCommit p lead x y s).capacity.framing = s.capacity.framing
      ∧ (recordCommit p lead x y s).capacity.replies = s.capacity.replies := by
  unfold recordCommit
  split <;> simp

@[simp] theorem makeCommit_kept (p lead : Nat) (x y : Bool) (s : State) :
    (makeCommit p lead x y s).capacity.held = s.capacity.held
      ∧ (makeCommit p lead x y s).capacity.framing = s.capacity.framing
      ∧ (makeCommit p lead x y s).capacity.replies = s.capacity.replies := by
  simp [makeCommit]

@[simp] theorem fallback_kept (s : State) :
    (fallback s).capacity.held = s.capacity.held ∧ (fallback s).capacity.framing = s.capacity.framing
      ∧ (fallback s).capacity.replies = s.capacity.replies := by
  unfold fallback
  (repeat' split) <;> simp

end Sys2Proof.Machine
end

section
/-! PROOFS. Commits and the fallback (R129, R132): O45. -/

namespace Sys2Proof.Machine

theorem afterLastSlot_iff {t : Tae} {n : Superframe} (hn : t.lastSlot = some n) (m : Superframe) :
    afterLastSlot m t = true ↔ (m - n).toNat < 32768 ∧ m ≠ n := by
  simp [afterLastSlot, hn, isAfter_iff]

theorem fallback_of_no_commit {s : State} (h : ∀ k, s.tae.state ≠ .committed k) :
    fallback s =
      if s.tae.c = 0 then s else makeCommit 0 (emergencyLead s) false false (becomeSteady s) := by
  simp only [fallback, (s.tae.commit?_eq_none_iff).2 h]

theorem fallback_of_commit {s : State} {k : Commit} (hk : s.tae.state = .committed k) :
    fallback s =
      if afterLastSlot k.switch s.tae then
        if s.tae.c = 0 then
          if 0 < k.profile then publish (becomeSteady s) else s
        else if k.profile = 0 then s
        else makeCommit 0 (emergencyLead s) false false (becomeSteady s)
      else s.withTae { s.tae with fallbackOwed := true } := by
  have hcommit : s.tae.commit? = some k := by simp only [Tae.commit?, hk]
  simp only [fallback, hcommit]

/-- Settles O45: a commit by `makeCommit_of_slot`, and the rows of R132 by the commit and *c*. -/
theorem commitsAndFallbacksAreMade : Obligations.CommitsAndFallbacksAreMade := by
  intro s n hn
  refine ⟨fun p lead confirmed emergency => ⟨_, rfl, ?made⟩, fun hc h => ?_, fun hc h => ?_,
    fun k hk => ⟨fun hafter => ?_, fun hafter => ⟨fun hc hp => ?_, fun hc hp => ?_, fun hc hp => ?_⟩⟩⟩
  case made =>
    rw [makeCommit_of_slot hn, Tae.committing, TaeCounters.countCommit_eq]
    rfl
  · rw [fallback_of_no_commit h, if_pos hc]
  · rw [fallback_of_no_commit h, if_neg hc]
    rfl
  · rw [fallback_of_commit hk, if_neg (by rwa [afterLastSlot_iff hn])]
    rfl
  · rw [fallback_of_commit hk, if_pos ((afterLastSlot_iff hn _).2 hafter), if_pos hc, if_pos (Nat.pos_of_ne_zero hp)]
    rfl
  · rw [fallback_of_commit hk, if_pos ((afterLastSlot_iff hn _).2 hafter), if_neg hc, if_neg hp]
    rfl
  · rw [fallback_of_commit hk, if_pos ((afterLastSlot_iff hn _).2 hafter), if_neg hc, if_pos hp]

end Sys2Proof.Machine
end

section
/-! PROOFS. The far end's request: its filter (R125), O43, and what its target does by the TAE state (R124, R126 to
R128, R138), O44. -/

namespace Sys2Proof.Machine

/-! ### The filter (R125) -/

theorem Ladder.nextAbove_eq_none {l : Ladder} {p : Nat} (h : ∀ u, p < u → l.enabledAt u = false) :
    l.nextAbove p = none := by
  rw [Ladder.nextAbove, List.find?_eq_none]
  intro u _ hu
  obtain ⟨hpu, hen⟩ : p < u ∧ l.enabledAt u = true := by simpa using hu
  simp [h u hpu] at hen

section

variable {l : Ladder} {c p : Nat}

theorem targetOf_of_beyond (h : l.count ≤ p) : targetOf l c p = none := if_pos h

theorem targetOf_of_above (h : p < l.count) (hc : c < p) : targetOf l c p = l.nextAbove c := by
  rw [targetOf, if_neg (Nat.not_le.2 h), if_pos hc]

theorem targetOf_of_current (h : p < l.count) (hc : p = c) : targetOf l c p = some c := by
  rw [targetOf, if_neg (Nat.not_le.2 h), if_neg (by omega), if_pos hc]

theorem targetOf_of_below (h : p < l.count) (hc : p < c) :
    targetOf l c p = if l.enabledAt p = true then some p else some ((l.highestBelow p fun _ => true).getD 0) := by
  rw [targetOf, if_neg (Nat.not_le.2 h), if_neg (by omega), if_neg (by omega)]

end

section

variable {r : Request} {s : State}

theorem takeRequest_of_refused (h : s.link.adapting = false ∨ r.kind = .none ∨ s.tae.lastSlot = none) :
    takeRequest r s = s := by
  refine if_neg ?_
  obtain h | h | h := h <;> simp [h]

variable (hx : s.link.adapting = true) (hk : r.kind ≠ .none) (hslot : s.tae.lastSlot ≠ none)
include hx hk hslot

theorem takeRequest_of_no_target (h : targetOf s.ladder.active s.tae.c r.profile = none) :
    takeRequest r s = countBadRequest s := by
  simp only [takeRequest, hx, hk, Option.isSome_iff_ne_none.2 hslot, h, ne_eq, not_false_eq_true, decide_true,
    Bool.and_self, if_true]

theorem takeRequest_of_target {p : Nat} (h : targetOf s.ladder.active s.tae.c r.profile = some p) :
    takeRequest r s = handleTarget p r.kind s := by
  simp only [takeRequest, hx, hk, Option.isSome_iff_ne_none.2 hslot, h, ne_eq, not_false_eq_true, decide_true,
    Bool.and_self, if_true]

end

/-- Settles O43: the rows of R125 by the place of the requested profile, with the searches of R6. -/
theorem requestsAreFiltered : Obligations.RequestsAreFiltered := by
  refine ⟨fun r s hx hk hslot h => takeRequest_of_no_target hx hk hslot h, fun l c p _ => ⟨targetOf_of_beyond,
    fun hp hc => ⟨fun u hu hen hbetween => ?_, fun h => ?_⟩, fun hp hc hen => ?_,
    fun hp hc hen => ⟨fun u hu hu' hbetween => ?_, fun h => ?_⟩, targetOf_of_current⟩⟩
  · rw [targetOf_of_above hp hc]
    exact Ladder.nextAbove_eq_some_iff.2 ⟨hu, hen, hbetween⟩
  · rw [targetOf_of_above hp hc, Ladder.nextAbove_eq_none h]
  · rw [targetOf_of_below hp hc, if_pos hen]
  · have hfound : l.highestBelow p (fun _ => true) = some u :=
      Ladder.highestBelow_eq_some hu hu' rfl fun j huj hjp hj => by simp [hbetween j huj hjp] at hj
    rw [targetOf_of_below hp hc, if_neg (by simp [hen]), hfound, Option.getD_some]
  · have hnone : l.highestBelow p (fun _ => true) = none :=
      Ladder.highestBelow_eq_none fun j hjp hj => by simp [h j hjp] at hj
    rw [targetOf_of_below hp hc, if_neg (by simp [hen]), hnone, Option.getD_none]

/-! ### What a target does (R124, R126 to R128) -/

/-- From `s`, with a target `p`, the TAE made the commit `made` or else came to `drained`, and `published` counts the
publications beside that of the commit. -/
structure TargetHandled (s t : State) (p : Nat) (made : Option Commit) (drained : TaeState) (published : BitVec 16) :
    Prop where
  tae : t.tae =
    { s.tae with
      state := match made with
        | some k => .committed k
        | none => drained
      counters :=
        { s.tae.counters with
          unconfirmedDownshifts := s.tae.counters.unconfirmedDownshifts
            + (if made.isSome = true ∧ p < s.tae.c then 1#32 else 0#32)
          emergencies := s.tae.counters.emergencies
            + (if made.isSome = true ∧ p < s.tae.c then 1#32 else 0#32) } }
  generation : t.capacity.generation
    = s.capacity.generation + (if made.isSome = true then 1#16 else 0#16) + published
  upward : made.isSome = true → s.tae.c < p → t.sent = s.sent ∧ t.capacity.alert = s.capacity.alert
  downward : ∀ k, made = some k → p < s.tae.c → ∃ v, t = requestAlert p (some k.switch) v
    ∧ v.sent = s.sent ∧ v.capacity.alert = s.capacity.alert
  frame : t = { s with tae := t.tae, capacity := t.capacity, sent := t.sent }

/-- Nothing is done. -/
theorem TargetHandled.unchanged {s : State} {p : Nat} {drained : TaeState} (h : s.tae.state = drained) :
    TargetHandled s s p none drained 0#16 where
  tae := by simp [← h]
  generation := by simp
  upward := by simp
  downward := by simp
  frame := rfl

/-- A drain starts or is moved to a deeper target: one publication, and its alert (R126, R127). -/
theorem TargetHandled.drains (s : State) (p timer limit : Nat) :
    TargetHandled s (retarget p timer limit s) p none (.draining p timer limit) 1#16 where
  tae := by simp [retarget]
  generation := by simp [retarget]
  upward := by simp
  downward := by simp
  frame := State.eq_of_blocks (by simp [retarget])

/-- A drain ends without a commit: one publication (R127). -/
theorem TargetHandled.ends (s : State) (p : Nat) : TargetHandled s (publish (becomeSteady s)) p none .steady 1#16 where
  tae := by simp
  generation := by simp
  upward := by simp
  downward := by simp
  frame := State.eq_of_blocks (by simp)

/-- `u`, in which a commit is made, stands as `s` does but for a drain that ended and its publications. -/
structure ReadyToCommit (s u : State) (published : BitVec 16) : Prop where
  tae : ∃ x, u.tae = { s.tae with state := x }
  generation : u.capacity.generation = s.capacity.generation + published
  alert : u.capacity.alert = s.capacity.alert
  frame : u = { s with tae := u.tae, capacity := u.capacity }

namespace ReadyToCommit

theorem refl (s : State) : ReadyToCommit s s 0#16 := ⟨⟨s.tae.state, rfl⟩, by simp, rfl, rfl⟩

theorem steady (s : State) : ReadyToCommit s (becomeSteady s) 0#16 := ⟨⟨.steady, rfl⟩, by simp, rfl, rfl⟩

theorem published (s : State) : ReadyToCommit s (publish (becomeSteady s)) 1#16 :=
  ⟨⟨.steady, rfl⟩, by simp, by simp, rfl⟩

theorem c_eq {s u : State} {published : BitVec 16} (h : ReadyToCommit s u published) : u.tae.c = s.tae.c := by
  obtain ⟨x, hx⟩ := h.tae
  rw [hx]

end ReadyToCommit

/-- A commit is made; a request's downward commit is one of kind EMERGENCY (R126 to R128). -/
theorem TargetHandled.commits {s u : State} {published : BitVec 16} (h : ReadyToCommit s u published)
    {n : Superframe} (hn : s.tae.lastSlot = some n) {p lead : Nat} {emergency : Bool} {drained : TaeState}
    (hemergency : emergency = true ↔ p < s.tae.c) :
    TargetHandled s (makeCommit p lead false emergency u) p (some ⟨p, plusLead n lead⟩) drained published := by
  have hc := h.c_eq
  obtain ⟨⟨x, hx⟩, hgeneration, halert, hframe⟩ := h
  have hu : u.tae.lastSlot = some n := by rw [hx, hn]
  have hsent : u.sent = s.sent := by rw [hframe]
  constructor
  case tae =>
    rw [makeCommit_tae hu, Tae.committing, TaeCounters.countCommit_eq, hx]
    simp [hemergency]
  case generation =>
    rw [makeCommit_generation hu, hgeneration, BitVec.add_assoc, BitVec.add_comm published, ← BitVec.add_assoc]
    rfl
  case upward =>
    intro _ hlt
    rw [makeCommit_of_slot hu, if_neg (by omega)]
    simp [hsent, halert]
  case downward =>
    rintro _ ⟨⟩ hlt
    exact ⟨_, by rw [makeCommit_of_slot hu, if_pos (by rwa [hc])], by simpa using hsent, by simpa using halert⟩
  case frame =>
    refine State.eq_of_blocks ?_
    rw [hframe]
    simp

/-- The commit that a target calls for in STEADY and in DRAINING (R126, R127). -/
def commitFor (s : State) (n : Superframe) (p : Nat) (kind : RequestKind) : Option Commit :=
  if p = s.tae.c then none
  else if s.tae.c < p then some ⟨p, plusLead n s.params.commitLead⟩
  else if kind = .emergency then some ⟨p, plusLead n (emergencyLead s)⟩ else none

/-- The commit that a target calls for (R126 to R128). -/
def targetCommit (s : State) (n : Superframe) (p : Nat) (kind : RequestKind) : Option Commit :=
  match s.tae.state with
  | .steady => commitFor s n p kind
  | .draining _ _ _ => commitFor s n p kind
  | .committed k =>
    if p < s.tae.c ∧ kind = .emergency ∧ p < k.profile ∧ (k.switch - n).toNat < 32768 ∧ k.switch ≠ n then
      some ⟨p, plusLead n (emergencyLead s)⟩
    else none

/-- The TAE state that a target leads to when it calls for no commit (R126 to R128). -/
def targetState (s : State) (p : Nat) (kind : RequestKind) : TaeState :=
  match s.tae.state with
  | .steady => if p < s.tae.c ∧ kind = .normal then .draining p 0 s.params.drainTimeout else .steady
  | .draining d timer limit =>
    if s.tae.c ≤ p then .steady else if p < d then .draining p timer limit else .draining d timer limit
  | other => other

/-- The publications of a target beside that of its commit (R126, R127). -/
def targetPublished (s : State) (p : Nat) (kind : RequestKind) : BitVec 16 :=
  match s.tae.state with
  | .steady => if targetState s p kind = .steady then 0#16 else 1#16
  | .draining d _ _ => if s.tae.c ≤ p ∨ (p < d ∧ kind = .normal) then 1#16 else 0#16
  | .committed _ => 0#16

section

variable {s : State} {p : Nat} {kind : RequestKind}

theorem targetSteady_of_current (h : p = s.tae.c) : targetSteady p kind s = s := if_pos h

theorem targetSteady_of_above (h : s.tae.c < p) :
    targetSteady p kind s = makeCommit p s.params.commitLead false false s := by
  rw [targetSteady, if_neg (by omega), if_pos h]

theorem targetSteady_of_emergency (h : p < s.tae.c) :
    targetSteady p .emergency s = makeCommit p (emergencyLead s) false true s := by
  rw [targetSteady, if_neg (by omega), if_neg (by omega), if_pos rfl]

theorem targetSteady_of_normal (h : p < s.tae.c) :
    targetSteady p .normal s = retarget p 0 s.params.drainTimeout s := by
  rw [targetSteady, if_neg (by omega), if_neg (by omega), if_neg (by simp)]
  rfl

variable {n : Superframe} (hn : s.tae.lastSlot = some n)
include hn

/-- In STEADY the place of the target against *c* and the request's kind decide (R126). -/
theorem targetSteady_handled (hkind : kind ≠ .none) (hs : s.tae.state = .steady) :
    TargetHandled s (targetSteady p kind s) p (targetCommit s n p kind) (targetState s p kind)
      (targetPublished s p kind) := by
  simp only [targetCommit, targetPublished, targetState, commitFor, hs]
  obtain hc | hc | hc := Nat.lt_trichotomy p s.tae.c
  · have hne : p ≠ s.tae.c := by omega
    cases kind with
    | none => exact absurd rfl hkind
    | emergency =>
      simpa [hc, hne, Nat.not_lt_of_gt hc, targetSteady_of_emergency hc] using .commits (.refl s) hn (by simp [hc])
    | normal =>
      simpa [hc, hne, Nat.not_lt_of_gt hc, targetSteady_of_normal hc] using .drains s p 0 s.params.drainTimeout
  · rw [targetSteady_of_current hc]
    simpa [hc] using .unchanged hs
  · simpa [hc, Nat.ne_of_gt hc, Nat.not_lt_of_gt hc, targetSteady_of_above hc] using
      .commits (.refl s) hn (by simp; omega)

/-- In DRAINING a target not below *c* ends the drain, and one below it hurries, deepens or keeps it (R127). -/
theorem targetDraining_handled (hkind : kind ≠ .none) {d timer limit : Nat}
    (hs : s.tae.state = .draining d timer limit) :
    TargetHandled s (targetDraining d timer limit p kind s) p (targetCommit s n p kind) (targetState s p kind)
      (targetPublished s p kind) := by
  simp only [targetCommit, targetPublished, targetState, commitFor, hs, targetDraining]
  obtain hc | hc | hc := Nat.lt_trichotomy p s.tae.c
  · have hne : p ≠ s.tae.c := by omega
    cases kind with
    | none => exact absurd rfl hkind
    | emergency =>
      simpa [hc, hne, Nat.not_lt_of_gt hc, Nat.not_le_of_gt hc] using .commits (.steady s) hn (by simp [hc])
    | normal =>
      by_cases hd : p < d
      · simpa [hc, hne, hd, Nat.not_lt_of_gt hc, Nat.not_le_of_gt hc] using .drains s p timer limit
      · simpa [hc, hne, hd, Nat.not_lt_of_gt hc, Nat.not_le_of_gt hc] using .unchanged hs
  · have hcurrent : targetSteady p kind (publish (becomeSteady s)) = publish (becomeSteady s) :=
      targetSteady_of_current (by simpa using hc)
    rw [if_pos (Nat.le_of_eq hc.symm), hcurrent]
    simpa [hc] using TargetHandled.ends s s.tae.c
  · have habove := targetSteady_of_above (s := publish (becomeSteady s)) (p := p) (kind := kind) (by simpa using hc)
    simpa [hc, Nat.le_of_lt hc, Nat.ne_of_gt hc, habove] using .commits (.published s) hn (by simp; omega)

/-- In COMMITTED only an EMERGENCY downshift below the committed profile supersedes (R128). -/
theorem targetCommitted_handled {k : Commit} (hs : s.tae.state = .committed k) :
    TargetHandled s (targetCommitted k p kind s) p (targetCommit s n p kind) (targetState s p kind)
      (targetPublished s p kind) := by
  simp only [targetCommit, targetPublished, targetState, hs, targetCommitted, Bool.and_eq_true, decide_eq_true_eq,
    afterLastSlot_iff hn, and_assoc]
  split
  · rename_i h
    exact .commits (.refl s) hn (by simp [h.1])
  · exact .unchanged hs

theorem handleTarget_handled (hkind : kind ≠ .none) :
    TargetHandled s (handleTarget p kind s) p (targetCommit s n p kind) (targetState s p kind)
      (targetPublished s p kind) := by
  cases hs : s.tae.state with
  | steady => simpa only [handleTarget, hs] using targetSteady_handled hn hkind hs
  | draining d timer limit => simpa only [handleTarget, hs] using targetDraining_handled hn hkind hs
  | committed k => simpa only [handleTarget, hs] using targetCommitted_handled hn hs

end

/-! ### A drain that starts, moves, goes on or ends (R126, R127) -/

section

variable {s : State} {p : Nat}

theorem handleTarget_of_start (hs : s.tae.state = .steady) (h : p < s.tae.c) :
    handleTarget p .normal s = retarget p 0 s.params.drainTimeout s := by
  simp only [handleTarget, hs, targetSteady_of_normal h]

variable {d timer limit : Nat} (hs : s.tae.state = .draining d timer limit)
include hs

theorem handleTarget_of_drain (h : p < s.tae.c) :
    handleTarget p .normal s = if p < d then retarget p timer limit s else s := by
  simp only [handleTarget, hs, targetDraining, Nat.not_le.2 h, if_false, reduceCtorEq]

theorem handleTarget_of_current (kind : RequestKind) (h : s.tae.c = p) :
    handleTarget p kind s = publish (becomeSteady s) := by
  simp only [handleTarget, hs, targetDraining, h, Nat.le_refl, if_true]
  exact targetSteady_of_current (by simp [h])

end

/-- A power request of MAX while ATPC enable is on (R138). -/
theorem takePower_eq (p : PowerRequest) (s : State) :
    takePower p s = { s with tae :=
      { s.tae with
        attenuation := if p = .max ∧ s.params.atpc = true then s.params.attMin else s.tae.attenuation } } := by
  by_cases h : p = .max ∧ s.params.atpc = true
  · rw [if_pos h, takePower, if_pos (by simpa using h)]
    rfl
  · rw [if_neg h, takePower, if_neg (by simpa using h)]

/-- Settles O44: the refusals of R124, the bad request of R125, and a target by `handleTarget_handled`. -/
theorem requestsMoveTheTransmitter : Obligations.RequestsMoveTheTransmitter := by
  refine ⟨takePower_eq, fun r s => ⟨takeRequest_of_refused, fun n hx hk hn => ?_⟩⟩
  have hslot : s.tae.lastSlot ≠ none := by simp [hn]
  refine ⟨takeRequest_of_no_target hx hk hslot, ?_⟩
  rintro p _ made drained htarget rfl hmade hdrained
  have handled := handleTarget_handled (p := p) hn hk
  obtain rfl : made = targetCommit s n p r.kind := hmade
  obtain rfl : drained = targetState s p r.kind := hdrained
  rw [takeRequest_of_target hx hk hslot htarget]
  refine ⟨?tae, handled.generation, fun hs hlt hnormal => ?_, fun d timer limit hs hlt hnormal =>
    ⟨fun hd => ?_, fun hd => ?_⟩, fun d timer limit hs => handleTarget_of_current hs r.kind, handled.upward,
    handled.downward, handled.frame⟩
  case tae => exact handled.tae.trans (by cases targetCommit s n p r.kind <;> rfl)
  · rw [hnormal, handleTarget_of_start hs hlt]
    rfl
  · rw [hnormal, handleTarget_of_drain hs hlt, if_pos hd]
    rfl
  · rw [hnormal, handleTarget_of_drain hs hlt, if_neg (Nat.not_lt.2 hd)]

end Sys2Proof.Machine
end

section
/-! PROOFS. The strobe at the TAE (R131, R137): O47. -/

namespace Sys2Proof.Machine

/-! ### The slew counter (R137) -/

theorem slewPoint_iff (s : State) : slewPoint s = true ↔ 2 ^ s.params.slewIndex ≤ s.tae.slew + 1 := decide_eq_true_iff

theorem slewStrobe_tae (s : State) :
    (slewStrobe s).tae = { s.tae with
      slew := if 2 ^ s.params.slewIndex ≤ s.tae.slew + 1 then 0 else s.tae.slew + 1
      attenuation :=
        if 2 ^ s.params.slewIndex ≤ s.tae.slew + 1 then slewed s.params s.peer.fields.power s.tae.attenuation
        else s.tae.attenuation } := by
  by_cases h : 2 ^ s.params.slewIndex ≤ s.tae.slew + 1
  · rw [slewStrobe, if_pos ((slewPoint_iff s).2 h), if_pos h, if_pos h]
    rfl
  · rw [slewStrobe, if_neg (by rwa [slewPoint_iff]), if_neg h, if_neg h]
    rfl

/-- The attenuation and the slew counter are not shown. -/
theorem slewStrobe_recordCurrent {s : State} (h : s.RecordCurrent) : (slewStrobe s).RecordCurrent :=
  recordCurrent_congr h (recordNow_congr (by simp) (by simp) (by simp) (by simp [slewStrobe_tae])) (by simp)

/-! ### The drain timer (R131) -/

section

variable {s : State}

theorem drainStrobe_of_no_drain (h : ∀ d timer limit, s.tae.state ≠ .draining d timer limit) : drainStrobe s = s := by
  unfold drainStrobe
  split
  · exact absurd ‹_› (h _ _ _)
  · rfl

variable {d timer limit : Nat} (hs : s.tae.state = .draining d timer limit)
include hs

theorem drainTimesOut_of_draining : drainTimesOut s = decide (limit ≤ timer + 1) := by
  simp only [drainTimesOut, hs]

theorem drainStrobe_of_time_left (h : timer + 1 < limit) :
    drainStrobe s = s.withTae { s.tae with state := .draining d (timer + 1) limit } := by
  simp only [drainStrobe, hs, if_neg (Nat.not_le.2 h)]

theorem drainStrobe_of_timeout (h : limit ≤ timer + 1) : drainStrobe s = timeOutDrain d s := by
  simp only [drainStrobe, hs, if_pos h]

end

/-- The TAE in which the commit of a timed-out drain is made (R131). -/
def Tae.timedOut (t : Tae) : Tae :=
  { t with state := .steady, counters := { t.counters with drainTimeouts := t.counters.drainTimeouts + 1#32 } }

/-- The state in which the commit of a timed-out drain is made (R131). -/
def timedOut (s : State) : State :=
  (s.withTae s.tae.timedOut).withControl (s.control.afterRaising Event.drainTimeout.flag)

theorem timeOutDrain_eq (d : Nat) (s : State) :
    timeOutDrain d s = makeCommit d s.params.commitLead false false (timedOut s) := by
  rw [timeOutDrain, raise_eq_withControl]
  rfl

theorem timeOutDrain_control (d : Nat) (s : State) :
    (timeOutDrain d s).control = s.control.afterRaising Event.drainTimeout.flag := by
  simp [timeOutDrain_eq, timedOut]

theorem drainStrobe_taeKept (s : State) :
    (drainStrobe s).tae.c = s.tae.c ∧ (drainStrobe s).tae.lastSlot = s.tae.lastSlot
      ∧ (drainStrobe s).tae.fallbackOwed = s.tae.fallbackOwed
      ∧ (drainStrobe s).tae.attenuation = s.tae.attenuation ∧ (drainStrobe s).tae.slew = s.tae.slew := by
  unfold drainStrobe
  split
  · split
    · simp [timeOutDrain_eq, makeCommit, recordCommit_taeKept, timedOut, Tae.timedOut]
    · simp
  · simp

/-! ### The strobe (R131, R137) -/

theorem exec_taeStrobe (s : State) : exec .taeStrobe s = .next (taeStrobe s) := rfl

theorem exec_slewStep (s : State) :
    exec .slewStep s = .next (if 2 ^ s.params.slewIndex ≤ s.tae.slew + 1 then taeStrobe s else s) := by
  simp only [← slewPoint_iff]
  rfl

theorem exec_drainTimeout (s : State) :
    exec .drainTimeout s = .next (match s.tae.state with
      | .draining _ timer limit => if limit ≤ timer + 1 then taeStrobe s else s
      | _ => s) := by
  cases hs : s.tae.state with
  | draining d timer limit => simp only [exec, execDrainTimeout, drainTimesOut_of_draining hs, decide_eq_true_eq]
  | _ => simp [exec, execDrainTimeout, drainTimesOut, hs]

theorem taeStrobe_blocks (s : State) :
    (taeStrobe s).capacity = (drainStrobe s).capacity ∧ (taeStrobe s).sent = (drainStrobe s).sent
      ∧ (taeStrobe s).control = (drainStrobe s).control ∧ (taeStrobe s).tae.state = (drainStrobe s).tae.state
      ∧ (taeStrobe s).tae.counters = (drainStrobe s).tae.counters := by
  simp [taeStrobe, slewStrobe_tae]

theorem taeStrobe_frame_eq (s : State) : taeStrobe s = { s with
    tae := (taeStrobe s).tae
    capacity := (taeStrobe s).capacity
    sent := (taeStrobe s).sent
    control := (taeStrobe s).control } := State.eq_of_blocks (by simp)

/-- Settles O47: the slew counter by `slewStrobe_tae`, and the drain by its timer, with its commit in closed form. -/
theorem strobesDrainAndSlew : Obligations.StrobesDrainAndSlew := by
  intro s
  obtain ⟨hc, hslot, howed, hatt, hslew⟩ := drainStrobe_taeKept s
  obtain ⟨hcapacity, hsent, hcontrol, hstate, hcounters⟩ := taeStrobe_blocks s
  refine ⟨taeStrobe s, exec_taeStrobe s, exec_slewStep s, ?timeout, ?slew, ?attenuation, ?c, ?slot, ?owed, ?drain,
    taeStrobe_frame_eq s⟩
  case timeout => exact (exec_drainTimeout s).trans (by cases s.tae.state <;> rfl)
  case slew => simp [taeStrobe, slewStrobe_tae, hslew]
  case attenuation =>
    simp only [taeStrobe, slewStrobe_tae, hslew, hatt, drainStrobe_frame]
    cases s.peer.fields.power <;> simp only [slewed, ite_and]
  case c => simp [taeStrobe, slewStrobe_tae, hc]
  case slot => simp [taeStrobe, slewStrobe_tae, hslot]
  case owed => simp [taeStrobe, slewStrobe_tae, howed]
  case drain =>
    rw [hcapacity, hsent, hcontrol, hstate, hcounters]
    cases hs : s.tae.state with
    | steady => rw [drainStrobe_of_no_drain (by simp [hs])]; simp [hs]
    | committed k => rw [drainStrobe_of_no_drain (by simp [hs])]; simp [hs]
    | draining d timer limit =>
      refine ⟨fun h => ?_, fun h => ?_, fun h n hn => ?_⟩
      · rw [drainStrobe_of_time_left hs h]
        simp
      · rw [drainStrobe_of_timeout hs h, timeOutDrain_control]
      · have hlast : (timedOut s).tae.lastSlot = some n := hn
        have hrecord : (taeStrobe s).RecordCurrent := by
          rw [taeStrobe, drainStrobe_of_timeout hs h, timeOutDrain_eq]
          exact slewStrobe_recordCurrent (makeCommit_recordCurrent hlast ..)
        rw [drainStrobe_of_timeout hs h, timeOutDrain_eq, makeCommit_tae hlast, makeCommit_generation hlast,
          Tae.committing, TaeCounters.countCommit_eq]
        refine ⟨rfl, rfl, by simp [timedOut, Tae.timedOut], by simp [timedOut, Tae.timedOut], rfl, hrecord,
          by simp [timedOut], by simp [timedOut], by simp [timedOut], ?_⟩
        rintro _ rfl
        exact makeCommit_placesAlert hlast d s.params.commitLead false false

end Sys2Proof.Machine
end

section
/-! PROOFS. DRAIN READY (R130, R145, R148, R150): O57. -/

namespace Sys2Proof.Machine

theorem exec_drainReady_of_not_taken {m : List Byte} {s : State}
    (h : receiveDrainReady m = none ∨ s.capacity.framing = false
      ∨ (s.capacity.held ≠ none ∧ 8 ≤ s.capacity.replies.length)) : exec (.drainReady m) s = .next s := by
  cases hm : receiveDrainReady m with
  | none => simp only [exec, execDrainReady, hm]
  | some p =>
    have htakes : capacityTakes s = false := by
      obtain h | h | ⟨hheld, hfull⟩ := h
      · simp [hm] at h
      · simp [capacityTakes, h]
      · simp [capacityTakes, replyListFull, Config.replyListSize, Option.isSome_iff_ne_none.2 hheld, hfull]
    simp [exec, execDrainReady, hm, htakes]

theorem exec_drainReady_of_taken {m : List Byte} {p : BitVec 4} {s : State} (hm : receiveDrainReady m = some p)
    (hframing : s.capacity.framing = true) (hroom : s.capacity.held = none ∨ s.capacity.replies.length < 8) :
    exec (.drainReady m) s = .next (handleDrainReady p s) := by
  have htakes : capacityTakes s = true := by
    obtain h | h := hroom
    · simp [capacityTakes, replyListFull, hframing, h]
    · simp [capacityTakes, replyListFull, Config.replyListSize, hframing, Nat.not_le.2 h]
  simp only [exec, execDrainReady, hm, if_pos htakes]

theorem handleDrainReady_of_late {p : BitVec 4} {s : State}
    (h : ∀ d timer limit, s.tae.state = .draining d timer limit → d ≠ p.toNat) :
    handleDrainReady p s = answerLate p s := by
  have htoward : drainsToward p.toNat s = false := by
    unfold drainsToward
    split
    · rename_i hs
      exact decide_eq_false fun e => h _ _ _ hs e.symm
    · rfl
  simp [handleDrainReady, htoward]

/-- A late DRAIN READY, counted (R130). -/
def lateCounted (s : State) : State :=
  { s with tae := { s.tae with counters := { s.tae.counters with lateAnswers := s.tae.counters.lateAnswers + 1#32 } } }

theorem answerLate_eq (p : BitVec 4) (s : State) :
    answerLate p s
      = reply (.drainAnswer .late p (s.capacity.buffer s.capacity.newest).generation) (lateCounted s) := rfl

theorem handleDrainReady_of_toward {p : BitVec 4} {s : State} {timer limit : Nat}
    (hs : s.tae.state = .draining p.toNat timer limit) : handleDrainReady p s = answerAccepted p s := by
  simp [handleDrainReady, drainsToward, hs]

/-- The commit of an accepted DRAIN READY counts nothing (R129). -/
theorem Tae.committing_confirmed (t : Tae) (p lead : Nat) (n : Superframe) :
    t.committing p lead true false n = { t with state := .committed ⟨p, plusLead n lead⟩ } := by
  simp [Tae.committing, TaeCounters.countCommit]

/-- The commit of an accepted DRAIN READY, before its publication (R130). -/
def drainAccepted (p : BitVec 4) (n : Superframe) (s : State) : State :=
  s.withTae { s.tae with state := .committed ⟨p.toNat, plusLead n s.params.commitLead⟩ }

/-- The answer to an accepted DRAIN READY, behind its publication and before its alert (R130, R150). -/
def drainAnswered (p : BitVec 4) (n : Superframe) (s : State) : State :=
  reply (.drainAnswer .accepted p (s.capacity.generation + 1#16)) (publish (drainAccepted p n s))

theorem answerAccepted_eq {p : BitVec 4} {s : State} {n : Superframe} (hn : s.tae.lastSlot = some n) :
    answerAccepted p s = commitAlert (drainAnswered p n s) := by
  have hcommit : recordCommit p.toNat s.params.commitLead true false (becomeSteady s)
      = publish (drainAccepted p n s) := by
    rw [recordCommit_of_slot (s := becomeSteady s) hn, Tae.committing_confirmed]
    rfl
  rw [answerAccepted, hcommit, drainAnswer, publish_newestGeneration]
  rfl

theorem drainAnswered_tae (p : BitVec 4) (n : Superframe) (s : State) : (drainAnswered p n s).tae =
    { s.tae with state := .committed ⟨p.toNat, plusLead n s.params.commitLead⟩ } := by
  simp [drainAnswered, drainAccepted]

theorem drainAnswered_sent (p : BitVec 4) (n : Superframe) (s : State) : (drainAnswered p n s).sent =
    if s.capacity.held = none then
      { s.sent with
        capacity := s.sent.capacity ++ [Reply.bytes (.drainAnswer .accepted p (s.capacity.generation + 1#16))] }
    else s.sent := by
  simp [drainAnswered, reply_sent, drainAccepted]

/-- The Capacity Link as the alert of an accepted DRAIN READY finds it. -/
theorem drainAnswered_capacity (p : BitVec 4) (n : Superframe) (s : State) :
    (drainAnswered p n s).capacity.held = s.capacity.held
      ∧ (drainAnswered p n s).capacity.framing = s.capacity.framing
      ∧ (drainAnswered p n s).capacity.alert = s.capacity.alert
      ∧ (drainAnswered p n s).capacity.replies =
        if s.capacity.held = none then s.capacity.replies
        else s.capacity.replies ++ [.drainAnswer .accepted p (s.capacity.generation + 1#16)] := by
  simp [drainAnswered, reply_capacity, drainAccepted]

theorem alertOf_drainAnswered (p : BitVec 4) (n : Superframe) (s : State) (q : Nat) (switch : Option Superframe) :
    alertOf q switch (drainAnswered p n s)
      = ⟨q, (s.ladder.active.slot q).capacity, switch, s.capacity.generation + 1#16⟩ := by
  rw [drainAnswered, alertOf_reply, alertOf_publish]
  rfl

/-- Settles O57: the answer by whether the TAE drains toward the profile, and the alert behind an accepted one. -/
theorem drainReadyIsAnswered : Obligations.DrainReadyIsAnswered := by
  refine fun m s => ⟨exec_drainReady_of_not_taken, fun p hm hframing hroom => ⟨fun hlate => ?late, ?accepted⟩⟩
  case late =>
    rw [exec_drainReady_of_taken hm hframing hroom, handleDrainReady_of_late hlate]
    rintro _ _ rfl rfl
    rw [answerLate_eq]
    obtain ⟨hidle, h⟩ | ⟨hsending, h⟩ := reply_cases
      (.drainAnswer .late p (s.capacity.buffer s.capacity.newest).generation) (lateCounted s)
    · exact ⟨fun _ => by rw [h]; rfl, fun hheld => absurd hidle hheld⟩
    · exact ⟨fun hheld => absurd hheld hsending, fun _ => by rw [h]; rfl⟩
  case accepted =>
    rintro d timer limit n hs rfl hn
    have hstate : (drainAnswered p n s).tae.state = .committed ⟨p.toNat, plusLead n s.params.commitLead⟩ := by
      rw [drainAnswered_tae]
    refine ⟨commitAlert (drainAnswered p n s), ?_, ?tae, by simp [drainAnswered, drainAccepted],
      commitAlert_recordCurrent (reply_recordCurrent (publish_recordCurrent _) _), ?held, ?framing, ?answer, ?frame⟩
    · rw [exec_drainReady_of_taken hm hframing hroom, handleDrainReady_of_toward hs, answerAccepted_eq hn]
    case tae => simp [drainAnswered_tae, plusLead]
    case held => simp [drainAnswered_capacity]
    case framing => simp [drainAnswered_capacity, hframing]
    case frame => exact State.eq_of_blocks (by simp [drainAnswered, drainAccepted])
    case answer =>
      rintro _ _ rfl rfl
      obtain ⟨hheld, hup, halert, hreplies⟩ := drainAnswered_capacity p n s
      obtain ⟨-, -, hkept⟩ := commitAlert_kept (drainAnswered p n s)
      rw [commitAlert_sent hstate, commitAlert_alert hstate, alertOf_drainAnswered, drainAnswered_tae,
        drainAnswered_sent, hkept, hheld, hup, halert, hreplies, hframing]
      refine ⟨fun hidle => ?_, fun hsending => ?_⟩
      · by_cases hdown : p.toNat < s.tae.c <;> simp [hidle, hdown, plusLead]
      · simp [hsending, plusLead]

end Sys2Proof.Machine
end

section
/-! SUPPORT. A change of link state with a fallback or without (R155, R158, R160, R161): the transmitter's work is the same
in the old and in the new link state, which only the contents of records show. -/

namespace Sys2Proof.Machine

/-! ### The fallback does not read the link state (R132) -/

/-- The transmitter stands in `t` as in `s`: its state, its commits and publications counted, and what it sent. -/
structure SameTransmit (s t : State) : Prop where
  tae : t.tae = s.tae
  sent : t.sent = s.sent
  alert : t.capacity.alert = s.capacity.alert
  generation : t.capacity.generation = s.capacity.generation

/-- With *n*_last unset a steady TAE makes no commit and sends no alert (R119). -/
theorem makeCommit_unset {s : State} (hs : s.tae.state = .steady) (hslot : s.tae.lastSlot = none) (p lead : Nat)
    (confirmed emergency : Bool) : makeCommit p lead confirmed emergency s = s := by
  rw [makeCommit, recordCommit_unset p lead confirmed emergency s hslot, commitAlert, hs]

theorem makeCommit_withLink {s : State} (hs : s.tae.state = .steady) (p lead : Nat) (confirmed emergency : Bool)
    (x : LinkState) :
    SameTransmit (makeCommit p lead confirmed emergency s) (makeCommit p lead confirmed emergency (s.withLink x)) := by
  cases hn : s.tae.lastSlot with
  | none =>
    rw [makeCommit_unset hs hn, makeCommit_unset (s := s.withLink x) hs hn]
    exact ⟨rfl, rfl, rfl, rfl⟩
  | some n =>
    have hn' : (s.withLink x).tae.lastSlot = some n := hn
    constructor
    · rw [makeCommit_tae hn, makeCommit_tae hn', State.withLink_tae]
    · rw [makeCommit_sent hn, makeCommit_sent hn']
      rfl
    · rw [makeCommit_alert hn, makeCommit_alert hn']
      rfl
    · rw [makeCommit_generation hn, makeCommit_generation hn']
      rfl

theorem fallback_withLink (s : State) (x : LinkState) : SameTransmit (fallback s) (fallback (s.withLink x)) := by
  have hkept : SameTransmit s (s.withLink x) := ⟨rfl, rfl, rfl, rfl⟩
  have hcommit : SameTransmit (makeCommit 0 (emergencyLead s) false false (becomeSteady s))
      (makeCommit 0 (emergencyLead (s.withLink x)) false false (becomeSteady (s.withLink x))) :=
    makeCommit_withLink (s := becomeSteady s) rfl 0 (emergencyLead s) false false x
  have hended : SameTransmit (publish (becomeSteady s)) (publish (becomeSteady (s.withLink x))) :=
    ⟨rfl, rfl, by simp, rfl⟩
  have howed : SameTransmit (s.withTae { s.tae with fallbackOwed := true })
      ((s.withLink x).withTae { s.tae with fallbackOwed := true }) := ⟨rfl, rfl, rfl, rfl⟩
  cases hs : s.tae.commit? with
  | none => by_cases hc : s.tae.c = 0 <;> simpa [fallback, hs, hc]
  | some k =>
    by_cases hafter : afterLastSlot k.switch s.tae = true
    · by_cases hc : s.tae.c = 0
      · by_cases hp : 0 < k.profile <;> simpa [fallback, hs, hafter, hc, hp]
      · by_cases hp : k.profile = 0 <;> simpa [fallback, hs, hafter, hc, hp]
    · simpa [fallback, hs, hafter]

/-! ### A change of link state (R155) -/

/-- From `s` to `t` the link state became `new`, with the transmitter's work of `u`, the events `raised` and one
publication. -/
structure MovesWith (s u t : State) (new : LinkState) (raised : EventSet) : Prop where
  link : t.link = new
  tae : t.tae = u.tae
  sent : t.sent = u.sent
  alert : t.capacity.alert = u.capacity.alert
  generation : t.capacity.generation = u.capacity.generation + 1#16
  stores : t.capacity.held = s.capacity.held ∧ t.capacity.framing = s.capacity.framing
    ∧ t.capacity.replies = s.capacity.replies
  record : t.RecordCurrent
  control : t.control = s.control.afterRaising raised
  frame : t = { s with link := t.link, tae := t.tae, capacity := t.capacity, sent := t.sent, control := t.control }

theorem changeLink_id_movesWith (new : LinkState) (s : State) :
    MovesWith s s (changeLink new id s) new Event.stateChanged.flag where
  link := rfl
  tae := rfl
  sent := rfl
  alert := publish_alert _
  generation := rfl
  stores := by simp [changeLink]
  record := publish_recordCurrent _
  control := changeLink_control ..
  frame := State.eq_of_blocks (by simp [changeLink])

theorem changeLink_fallback_movesWith (new : LinkState) (s : State) :
    MovesWith s (fallback s) (changeLink new fallback s) new Event.stateChanged.flag where
  link := by simp [changeLink]
  tae := by simp [changeLink, (fallback_withLink s new).tae]
  sent := by simp [changeLink, (fallback_withLink s new).sent]
  alert := by simp [changeLink, (fallback_withLink s new).alert]
  generation := by simp [(fallback_withLink s new).generation]
  stores := by simp [changeLink]
  record := publish_recordCurrent _
  control := by simp [changeLink_control]
  frame := State.eq_of_blocks (by simp [changeLink])

/-- One more event is raised. -/
theorem MovesWith.raise {s u t : State} {new : LinkState} {raised : EventSet} (h : MovesWith s u t new raised)
    (e : Event) : MovesWith s u (raise e t) new (raised ||| e.flag) where
  link := h.link
  tae := h.tae
  sent := h.sent
  alert := h.alert
  generation := h.generation
  stores := h.stores
  record := h.record
  control := by rw [raise_control, h.control, afterRaising_afterRaising]
  frame := by
    have hframe := h.frame
    rw [raise_eq_withControl]
    exact congrArg (fun v => v.withControl (t.control.afterRaising e.flag)) hframe

end Sys2Proof.Machine
end

section
/-! PROOFS. HOLD and RESUME (R158): O24. -/

namespace Sys2Proof.Machine

theorem exec_hold_of_turn {s t : State} (h : turn .hold s = some t) : exec .hold s = .next (holdCommand t) := by
  simp only [exec, execHold, onTurn_of_some h]

theorem exec_resume_of_turn {s t : State} (h : turn .resume s = some t) :
    exec .resume s = .next (resumeCommand t) := by
  simp only [exec, execResume, onTurn_of_some h]

theorem holdCommand_of_offline {t : State} (hx : t.link = .offline) :
    holdCommand t = respond .refusedState t := by
  simp only [holdCommand, hx]

theorem holdCommand_of_fixed {t : State} (hx : t.link = .fixed) : holdCommand t = respond (.ok []) t := by
  simp only [holdCommand, hx]

/-- HOLD falls back from adaptive operation, and from ACQUIRE it does not (R158). -/
theorem holdCommand_of_moving {t : State} (hrun : t.link ≠ .offline) (hx : t.link ≠ .fixed) :
    ∃ v, holdCommand t = respond (.ok []) v
      ∧ MovesWith t (if t.link.adapting = true then fallback t else t) v .fixed Event.stateChanged.flag := by
  have hfalls := changeLink_fallback_movesWith .fixed t
  cases hlink : t.link with
  | offline => exact absurd hlink hrun
  | fixed => exact absurd hlink hx
  | acquire w => exact ⟨_, by simp only [holdCommand, hlink], changeLink_id_movesWith .fixed t⟩
  | adaptive => exact ⟨_, by simp only [holdCommand, hlink], hfalls⟩
  | pinned p => exact ⟨_, by simp only [holdCommand, hlink], hfalls⟩

/-- Settles O24: HOLD by the link state, and RESUME, a change of link state that no block acts on. -/
theorem holdAndResumeMoveTheLink : Obligations.HoldAndResumeMoveTheLink := by
  refine ⟨fun s t h => ?hold, fun s t h => ?resume⟩
  case hold =>
    rw [exec_hold_of_turn h]
    refine ⟨fun hx => by rw [holdCommand_of_offline hx], fun hx => by rw [holdCommand_of_fixed hx],
      fun hrun hx => ?_⟩
    obtain ⟨v, hv, hmoved⟩ := holdCommand_of_moving hrun hx
    obtain ⟨hheld, hframing, hreplies⟩ := hmoved.stores
    refine ⟨v, by rw [hv], hmoved.link, ?_, ?_, ?_, hheld, hframing, hreplies, ?_, hmoved.record, hmoved.control,
      hmoved.frame⟩
    · rw [hmoved.tae, apply_ite State.tae]
    · rw [hmoved.sent, apply_ite State.sent]
    · rw [hmoved.alert, apply_ite fun u : State => u.capacity.alert]
    · rw [hmoved.generation, apply_ite fun u : State => u.capacity.generation]
  case resume =>
    rw [exec_resume_of_turn h]
    refine ⟨fun hx => by rw [resumeCommand, if_neg hx], fun hx => ?_⟩
    have hmoved := changeLink_id_movesLink (.acquire .starting) t
    exact ⟨_, by rw [resumeCommand, if_pos hx], hmoved.link, hmoved.alert, hmoved.generation, hmoved.record,
      hmoved.control, hmoved.frame⟩

end Sys2Proof.Machine
end

section
/-! PROOFS. The notices to the Link Supervisor (R160, R161, R163): O26. -/

namespace Sys2Proof.Machine

/-- What a notice leaves of a state: nothing changes where the link state stays; where it moves, the record shows the
move, with a fallback when it `falls` and with the events `raised`. -/
structure TakesNotice (s t : State) (falls : Prop) [Decidable falls] (raised : EventSet) : Prop where
  tae : t.tae = if falls then (fallback s).tae else s.tae
  sent : t.sent = if falls then (fallback s).sent else s.sent
  alert : t.capacity.alert = if falls then (fallback s).capacity.alert else s.capacity.alert
  generation : t.capacity.generation =
    (if falls then (fallback s).capacity.generation else s.capacity.generation)
      + (if t.link = s.link then 0#16 else 1#16)
  control : t.control = s.control.afterRaising (if t.link = s.link then 0#21 else raised)
  kept : t.link = s.link → t = s
  record : t.link ≠ s.link → t.RecordCurrent
  stores : t.capacity.held = s.capacity.held ∧ t.capacity.framing = s.capacity.framing
    ∧ t.capacity.replies = s.capacity.replies
  frame : t = { s with link := t.link, tae := t.tae, capacity := t.capacity, sent := t.sent, control := t.control }

section

variable {s t : State} {falls : Prop} [Decidable falls] {raised : EventSet}

theorem TakesNotice.unchanged (h : ¬ falls) : TakesNotice s s falls raised where
  tae := (if_neg h).symm
  sent := (if_neg h).symm
  alert := (if_neg h).symm
  generation := by simp [h]
  control := by simp
  kept := fun _ => rfl
  record := fun hne => absurd rfl hne
  stores := ⟨rfl, rfl, rfl⟩
  frame := rfl

theorem TakesNotice.moved {new : LinkState} (hnew : new ≠ s.link)
    (h : MovesWith s (if falls then fallback s else s) t new raised) : TakesNotice s t falls raised := by
  have hne : t.link ≠ s.link := h.link ▸ hnew
  constructor
  case tae => rw [h.tae, apply_ite State.tae]
  case sent => rw [h.sent, apply_ite State.sent]
  case alert => rw [h.alert, apply_ite fun u : State => u.capacity.alert]
  case generation => rw [h.generation, apply_ite fun u : State => u.capacity.generation, if_neg hne]
  case control => rw [h.control, if_neg hne]
  case kept => exact fun he => absurd he hne
  case record => exact fun _ => h.record
  case stores => exact h.stores
  case frame => exact h.frame

end

/-! ### The hand-off of an accepted word (R160) -/

theorem enterMismatch_id_movesWith (s : State) : MovesWith s s (enterMismatch id s) (.acquire .ladderMismatch)
    (Event.stateChanged.flag ||| Event.ladderMismatch.flag) :=
  (changeLink_id_movesWith (.acquire .ladderMismatch) s).raise .ladderMismatch

theorem enterMismatch_fallback_movesWith (s : State) : MovesWith s (fallback s) (enterMismatch fallback s)
    (.acquire .ladderMismatch) (Event.stateChanged.flag ||| Event.ladderMismatch.flag) :=
  (changeLink_fallback_movesWith (.acquire .ladderMismatch) s).raise .ladderMismatch

theorem digestsEqual_eq (s : State) :
    digestsEqual s = decide (s.peer.fields.digest = some s.ladder.digest) := rfl

theorem supervisorHandOff_of_not_up {s : State} (h : s.peer.state ≠ .up) : supervisorHandOff s = s := if_neg h

section

variable {s : State} (hup : s.peer.state = .up)
include hup

theorem supervisorHandOff_of_adapting (hx : s.link.adapting = true) :
    supervisorHandOff s =
      if s.peer.fields.digest = some s.ladder.digest then s else enterMismatch fallback s := by
  obtain h | ⟨p, h⟩ := (LinkState.adapting_iff _).1 hx <;> simp [supervisorHandOff, hup, h, digestsEqual_eq]

theorem supervisorHandOff_of_acquire {w : WaitReason} (hx : s.link = .acquire w) :
    supervisorHandOff s =
      if s.peer.fields.digest = some s.ladder.digest then changeLink .adaptive id s
      else if w = .ladderMismatch then s else enterMismatch id s := by
  simp [supervisorHandOff, compareInAcquire, hup, hx, digestsEqual_eq]

theorem supervisorHandOff_of_other (hx : s.link = .offline ∨ s.link = .fixed) : supervisorHandOff s = s := by
  obtain h | h := hx <;> simp [supervisorHandOff, hup, h]

end

/-- From ACQUIRE there is no fallback. -/
theorem supervisorHandOff_takesNotice_of_acquire {s : State} (hup : s.peer.state = .up) {w : WaitReason}
    (hx : s.link = .acquire w) (falls : Prop) [Decidable falls] (hfalls : ¬ falls) :
    TakesNotice s (supervisorHandOff s) falls (Event.stateChanged.flag
      ||| (if (supervisorHandOff s).link = .acquire .ladderMismatch then Event.ladderMismatch.flag else 0#21)) := by
  rw [supervisorHandOff_of_acquire hup hx]
  by_cases hd : s.peer.fields.digest = some s.ladder.digest
  · have hmoves := changeLink_id_movesWith .adaptive s
    rw [if_pos hd]
    exact .moved (new := .adaptive) (by simp [hx]) (by simpa [hfalls] using hmoves)
  · by_cases hw : w = .ladderMismatch
    · rw [if_neg hd, if_pos hw]
      exact .unchanged hfalls
    · have hmoves := enterMismatch_id_movesWith s
      rw [if_neg hd, if_neg hw]
      exact .moved (new := .acquire .ladderMismatch) (by simp [hx, Ne.symm hw])
        (by simpa [hfalls, hmoves.link] using hmoves)

/-- R160: a word with another digest ends adaptive operation; in ACQUIRE the digests decide. -/
theorem supervisorHandOff_takesNotice (s : State) :
    TakesNotice s (supervisorHandOff s)
      (s.link.adapting = true ∧ (supervisorHandOff s).link = .acquire .ladderMismatch)
      (Event.stateChanged.flag
        ||| (if (supervisorHandOff s).link = .acquire .ladderMismatch then Event.ladderMismatch.flag else 0#21)) := by
  have hkept (h : supervisorHandOff s = s) (raised : EventSet) : TakesNotice s (supervisorHandOff s)
      (s.link.adapting = true ∧ (supervisorHandOff s).link = .acquire .ladderMismatch) raised := by
    rw [h]
    exact .unchanged fun ⟨hx, hmismatch⟩ => by simp [hmismatch, LinkState.adapting] at hx
  have hfalls (hadapting : s.link.adapting = true) (hup : s.peer.state = .up) : TakesNotice s (supervisorHandOff s)
      (s.link.adapting = true ∧ (supervisorHandOff s).link = .acquire .ladderMismatch)
      (Event.stateChanged.flag
        ||| (if (supervisorHandOff s).link = .acquire .ladderMismatch then Event.ladderMismatch.flag else 0#21)) := by
    by_cases hd : s.peer.fields.digest = some s.ladder.digest
    · exact hkept (by rw [supervisorHandOff_of_adapting hup hadapting, if_pos hd]) _
    · have hnew : .acquire .ladderMismatch ≠ s.link := fun e => by simp [← e, LinkState.adapting] at hadapting
      have hmoves := enterMismatch_fallback_movesWith s
      rw [supervisorHandOff_of_adapting hup hadapting, if_neg hd]
      exact .moved hnew (by simpa [hadapting, hmoves.link] using hmoves)
  by_cases hup : s.peer.state = .up
  · cases hx : s.link with
    | adaptive => exact hx ▸ hfalls ((LinkState.adapting_iff _).2 (.inl hx)) hup
    | pinned p => exact hx ▸ hfalls ((LinkState.adapting_iff _).2 (.inr ⟨p, hx⟩)) hup
    | acquire w => exact supervisorHandOff_takesNotice_of_acquire hup hx _ (by simp [LinkState.adapting])
    | offline => exact hx ▸ hkept (supervisorHandOff_of_other hup (.inl hx)) _
    | fixed => exact hx ▸ hkept (supervisorHandOff_of_other hup (.inr hx)) _
  · exact hkept (supervisorHandOff_of_not_up hup) _

theorem supervisorHandOff_link (s : State) :
    (supervisorHandOff s).link =
      if s.peer.state ≠ .up then s.link else
        match s.link with
        | .acquire _ =>
          if s.peer.fields.digest = some s.ladder.digest then .adaptive else .acquire .ladderMismatch
        | .adaptive =>
          if s.peer.fields.digest = some s.ladder.digest then .adaptive else .acquire .ladderMismatch
        | .pinned p =>
          if s.peer.fields.digest = some s.ladder.digest then .pinned p else .acquire .ladderMismatch
        | other => other := by
  by_cases hup : s.peer.state = .up
  · have hmismatch : (enterMismatch fallback s).link = .acquire .ladderMismatch :=
      (enterMismatch_fallback_movesWith s).link
    rw [if_neg (by simpa using hup)]
    cases hx : s.link with
    | acquire w =>
      have hcompared : supervisorHandOff s = compareInAcquire w s := by simp only [supervisorHandOff, if_pos hup, hx]
      rw [hcompared, compareInAcquire_link hx]
    | adaptive =>
      rw [supervisorHandOff_of_adapting hup (by rw [hx]; rfl), apply_ite State.link, hmismatch, hx]
    | pinned p =>
      rw [supervisorHandOff_of_adapting hup (by rw [hx]; rfl), apply_ite State.link, hmismatch, hx]
    | offline => rw [supervisorHandOff_of_other hup (.inl hx), hx]
    | fixed => rw [supervisorHandOff_of_other hup (.inr hx), hx]
  · rw [if_pos hup, supervisorHandOff_of_not_up hup]

/-! ### The DOWN notice and the burst overflow notice (R161, R163) -/

theorem supervisorDown_link (s : State) :
    (supervisorDown s).link =
      match s.link with
      | .adaptive => .acquire .peerDown
      | .pinned _ => .acquire .peerDown
      | .acquire _ => .acquire .peerDown
      | other => other := by
  cases hx : s.link with
  | adaptive => exact supervisorDown_link_of_adapting (by rw [hx]; rfl)
  | pinned p => exact supervisorDown_link_of_adapting (by rw [hx]; rfl)
  | acquire w => by_cases hw : w = .peerDown <;> simp [supervisorDown, hx, hw]
  | _ => simp [supervisorDown, hx]

theorem supervisorDown_takesNotice (s : State) :
    TakesNotice s (supervisorDown s) (s.link.adapting = true) Event.stateChanged.flag := by
  have hfalls := changeLink_fallback_movesWith (.acquire .peerDown) s
  cases hx : s.link with
  | adaptive =>
    simp only [supervisorDown, hx]
    exact .moved (new := .acquire .peerDown) (by simp [hx]) hfalls
  | pinned p =>
    simp only [supervisorDown, hx]
    exact .moved (new := .acquire .peerDown) (by simp [hx]) hfalls
  | acquire w =>
    simp only [supervisorDown, hx]
    split
    · exact .unchanged (by simp [LinkState.adapting])
    · rename_i hw
      exact .moved (by simp [hx, Ne.symm hw]) (changeLink_id_movesWith (.acquire .peerDown) s)
  | offline =>
    rw [supervisorDown_of_offline hx]
    exact .unchanged (by simp [LinkState.adapting])
  | fixed =>
    simp only [supervisorDown, hx]
    exact .unchanged (by simp [LinkState.adapting])

theorem supervisorOverflow_takesNotice (s : State) :
    TakesNotice s (supervisorOverflow s) False (Event.stateChanged.flag ||| Event.pinFault.flag) := by
  by_cases h : ∃ p, s.link = .pinned p
  · obtain ⟨p, hp⟩ := h
    have hmoves := (changeLink_id_movesWith .adaptive s).raise .pinFault
    rw [supervisorOverflow_of_pinned hp]
    exact .moved (new := .adaptive) (by simp [hp]) (by simpa using hmoves)
  · rw [supervisorOverflow_of_not_pinned fun p hp => h ⟨p, hp⟩]
    exact .unchanged id

/-- Settles O26: each notice by what it leaves of the state, and by the link state that follows. -/
theorem noticesMoveTheLink : Obligations.NoticesMoveTheLink := by
  intro s
  have hhand := supervisorHandOff_takesNotice s
  have hdown := supervisorDown_takesNotice s
  have hover := supervisorOverflow_takesNotice s
  refine ⟨(supervisorHandOff_link s).trans ?link, hhand.tae, hhand.sent, hhand.alert, hhand.generation, ?handEvents,
    (supervisorDown_link s).trans ?downLink, hdown.tae, hdown.sent, hdown.alert, hdown.generation, hdown.control,
    (supervisorOverflow_noticesOverflow s).link.trans ?overLink, hover.tae.trans (if_neg id),
    hover.sent.trans (if_neg id), hover.alert.trans (if_neg id), by simpa using hover.generation, hover.control, ?frame⟩
  case link => cases s.link <;> rfl
  case downLink => cases s.link <;> rfl
  case overLink => cases s.link <;> rfl
  case handEvents =>
    rw [hhand.control]
    by_cases hsame : (supervisorHandOff s).link = s.link <;> simp [hsame]
  case frame =>
    rintro t (rfl | rfl | rfl)
    · exact ⟨hhand.kept, hhand.record, hhand.stores.1, hhand.stores.2.1, hhand.stores.2.2, hhand.frame⟩
    · exact ⟨hdown.kept, hdown.record, hdown.stores.1, hdown.stores.2.1, hdown.stores.2.2, hdown.frame⟩
    · exact ⟨hover.kept, hover.record, hover.stores.1, hover.stores.2.1, hover.stores.2.2, hover.frame⟩

end Sys2Proof.Machine
end

section
/-! PROOFS. Publications and Capacity Alerts (R142 to R144, R149): O55. -/

namespace Sys2Proof.Machine

/-! ### The buffer that a publication writes (R144 step 1) -/

theorem CapacityLink.free_iff (k : CapacityLink) (b : Buffer) :
    k.free b = true ↔ b ≠ k.newest ∧ k.held ≠ some b := by
  rw [CapacityLink.free, Bool.and_eq_true, decide_eq_true_iff, decide_eq_true_iff, ne_comm (a := some b)]

theorem CapacityLink.not_free_iff (k : CapacityLink) (b : Buffer) :
    k.free b = false ↔ k.newest = b ∨ k.held = some b := by
  rw [← Bool.not_eq_true, k.free_iff, not_and_or, not_not, not_not, eq_comm]

/-- Two buffers at most are taken, by the newest record and by the read in flight, so one of three is free. -/
theorem CapacityLink.free_b2_of_lower_taken {k : CapacityLink} (h0 : k.free .b0 = false) (h1 : k.free .b1 = false) :
    k.free .b2 = true := by
  rw [k.not_free_iff] at h0 h1
  rw [k.free_iff]
  obtain h0 | h0 := h0 <;> obtain h1 | h1 := h1
  · exact absurd (h0.symm.trans h1) (by decide)
  · simp [h0, h1]
  · simp [h0, h1]
  · exact absurd (h0.symm.trans h1) (by decide)

/-- A publication's buffer is free, and every lower one is taken. -/
theorem CapacityLink.choice_cases (k : CapacityLink) :
    (k.choice = .b0 ∧ k.free .b0 = true)
      ∨ (k.choice = .b1 ∧ k.free .b1 = true ∧ k.free .b0 = false)
      ∨ (k.choice = .b2 ∧ k.free .b2 = true ∧ k.free .b0 = false ∧ k.free .b1 = false) := by
  cases h0 : k.free .b0 with
  | true => exact .inl ⟨by simp [CapacityLink.choice, h0], rfl⟩
  | false =>
    cases h1 : k.free .b1 with
    | true => exact .inr (.inl ⟨by simp [CapacityLink.choice, h0, h1], rfl, rfl⟩)
    | false =>
      exact .inr (.inr ⟨by simp [CapacityLink.choice, h0, h1], free_b2_of_lower_taken h0 h1, rfl, rfl⟩)

theorem CapacityLink.choice_free (k : CapacityLink) : k.free k.choice = true := by
  obtain ⟨h, hfree⟩ | ⟨h, hfree, -⟩ | ⟨h, hfree, -⟩ := k.choice_cases <;> rw [h, hfree]

theorem CapacityLink.lower_taken_of_choice_b1 {k : CapacityLink} (h : k.choice = .b1) : k.free .b0 = false := by
  obtain ⟨h', -⟩ | ⟨-, -, h0⟩ | ⟨-, -, h0, -⟩ := k.choice_cases
  · simp [h] at h'
  · exact h0
  · exact h0

theorem CapacityLink.lower_taken_of_choice_b2 {k : CapacityLink} (h : k.choice = .b2) :
    k.free .b0 = false ∧ k.free .b1 = false := by
  obtain ⟨h', -⟩ | ⟨h', -⟩ | ⟨-, -, htaken⟩ := k.choice_cases
  · simp [h] at h'
  · simp [h] at h'
  · exact htaken

theorem publish_buffer_other {s : State} {x : Buffer} (h : x ≠ s.capacity.choice) :
    (publish s).capacity.buffer x = s.capacity.buffer x :=
  CapacityLink.buffer_write_other s.capacity _ h

/-! ### What a record shows (R143) -/

/-- The capacities a record shows, by whether the link is in OFFLINE. -/
theorem eq_shownCapacity {s : State} {shown : Nat → Nat} (hoffline : s.link = .offline → ∀ p, shown p = 0)
    (hrun : s.link ≠ .offline → ∀ p, shown p = (s.ladder.active.slot p).capacity) : shown = shownCapacity s := by
  funext p
  by_cases h : s.link = .offline
  · rw [hoffline h, shownCapacity, if_pos h]
  · rw [hrun h, shownCapacity, if_neg h]

/-- Settles O55: the chosen buffer by `CapacityLink.choice_cases`, its record field by field, and an alert by
`placeAlert_cases`. -/
theorem publicationsAndAlerts : Obligations.PublicationsAndAlerts := by
  refine ⟨fun s => ?publication, ?alerts⟩
  case publication =>
    obtain ⟨hnewest, hheld⟩ := (s.capacity.free_iff _).1 s.capacity.choice_free
    refine ⟨publish s, s.capacity.choice, rfl, hnewest, hheld, fun h => ?b1, fun h => ?b2, publish_newest s,
      publish_generation s, fun x => publish_buffer_other, fun shown hoffline hrun => ?record, publish_framing s,
      publish_held s, publish_replies s, publish_alert s, rfl⟩
    case b1 => exact (s.capacity.not_free_iff _).1 (CapacityLink.lower_taken_of_choice_b1 h)
    case b2 =>
      obtain ⟨h0, h1⟩ := CapacityLink.lower_taken_of_choice_b2 h
      exact ⟨(s.capacity.not_free_iff _).1 h0, (s.capacity.not_free_iff _).1 h1⟩
    case record =>
      rw [publish_record, eq_shownCapacity hoffline hrun]
      rfl
  case alerts =>
    rintro p n s _ rfl
    rw [requestAlert_eq]
    obtain ⟨hup, hidle, h⟩ | ⟨hup, hsending, h⟩ | ⟨hdown, h⟩ := placeAlert_cases (alertOf p n s) s
    · exact ⟨fun hdown => by simp [hup] at hdown, fun _ _ => h, fun _ hsending => absurd hidle hsending⟩
    · exact ⟨fun hdown => by simp [hup] at hdown, fun _ hidle => absurd hidle hsending, fun _ _ => h⟩
    · exact ⟨fun _ => h, fun hup => by simp [hdown] at hup, fun hup => by simp [hdown] at hup⟩

end Sys2Proof.Machine
end

section
/-! PROOFS. Reads of the Capacity Link (R145 to R148, R151): O56. -/

namespace Sys2Proof.Machine

/-! ### Messages that leave in one handling -/

/-- Messages to the scheduler leave whole, in order. -/
def sendEach (messages : List (List Byte)) (s : State) : State :=
  s.withSent { s.sent with capacity := s.sent.capacity ++ messages }

theorem sendCapacity_eq (bytes : List Byte) (s : State) : sendCapacity bytes s = sendEach [bytes] s := rfl

theorem sendEach_nil (s : State) : sendEach [] s = s := by simp [sendEach, State.withSent]

theorem sendEach_sendEach (earlier later : List (List Byte)) (s : State) :
    sendEach later (sendEach earlier s) = sendEach (earlier ++ later) s := by
  simp [sendEach, State.withSent]

/-- The reply list leaves oldest first (R147). -/
theorem sendReplies_eq (rs : List Reply) (s : State) : sendReplies rs s = sendEach (rs.map Reply.bytes) s := by
  induction rs generalizing s with
  | nil => exact (sendEach_nil s).symm
  | cons r rest ih =>
    calc sendReplies (r :: rest) s
      _ = sendReplies rest (sendCapacity r.bytes s) := rfl
      _ = sendEach (rest.map Reply.bytes) (sendEach [r.bytes] s) := by rw [ih, sendCapacity_eq]
      _ = sendEach ((r :: rest).map Reply.bytes) s := sendEach_sendEach ..

theorem sendAlert_eq (x : Option CapacityAlert) (s : State) :
    sendAlert x s = sendEach (x.map CapacityAlert.bytes).toList s := by
  cases x with
  | none => exact (sendEach_nil s).symm
  | some x => rfl

/-- The record message, the reply list and the waiting alert leave at the end of a read, in that order (R147). -/
theorem endRead_eq (b : Buffer) (s : State) :
    endRead b s =
      (sendEach (completeRecordMessage (s.capacity.buffer b)
          :: (s.capacity.replies.map Reply.bytes ++ (s.capacity.alert.map CapacityAlert.bytes).toList)) s).withCapacity
        { s.capacity with held := none, replies := [], alert := none } := by
  rw [endRead, sendCapacity_eq, sendReplies_eq, sendEach_sendEach, sendAlert_eq, sendEach_sendEach]
  rfl

theorem abortRead_of_idle {s : State} (h : s.capacity.held = none) (n : Nat) : abortRead n s = sendEach [] s := by
  rw [sendEach_nil]
  simp only [abortRead, h]

theorem abortRead_of_sending {s : State} {b : Buffer} (h : s.capacity.held = some b) (n : Nat) :
    abortRead n s = sendEach [abortedRecordMessage (s.capacity.buffer b) n] s := by
  simp only [abortRead, h, sendCapacity_eq]

/-! ### Commands that are taken (R145, R146, R148) -/

theorem replyListFull_iff (s : State) :
    replyListFull s = true ↔ s.capacity.held ≠ none ∧ 8 ≤ s.capacity.replies.length := by
  rw [replyListFull, Bool.and_eq_true, Option.isSome_iff_ne_none, decide_eq_true_iff, Config.replyListSize]

theorem capacityTakes_iff (s : State) : capacityTakes s = true ↔
    s.capacity.framing = true ∧ (s.capacity.held = none ∨ s.capacity.replies.length < 8) := by
  rw [capacityTakes, Bool.and_eq_true, Bool.not_eq_true', ← Bool.not_eq_true, replyListFull_iff, not_and_or,
    not_not, Nat.not_le]

theorem exec_capacityRead_of_taken {m : List Byte} {s : State} (hm : receiveCapacityRead m = true)
    (hframing : s.capacity.framing = true) (hroom : s.capacity.held = none ∨ s.capacity.replies.length < 8) :
    exec (.capacityRead m) s = .next (startRead s) := by
  simp only [exec, execCapacityRead, hm, (capacityTakes_iff s).2 ⟨hframing, hroom⟩, Bool.and_self, if_true]

theorem exec_capacityRead_of_not_taken {m : List Byte} {s : State}
    (h : receiveCapacityRead m = false ∨ s.capacity.framing = false
      ∨ (s.capacity.held ≠ none ∧ 8 ≤ s.capacity.replies.length)) : exec (.capacityRead m) s = .next s := by
  have hnot : ¬ (receiveCapacityRead m && capacityTakes s) = true := by
    rw [Bool.and_eq_true, capacityTakes_iff]
    rintro ⟨hm, hframing, hroom⟩
    obtain h | h | ⟨hheld, hfull⟩ := h
    · simp [hm] at h
    · simp [hframing] at h
    · exact hroom.elim hheld (Nat.not_lt.2 hfull)
  simp only [exec, execCapacityRead, if_neg hnot]

theorem startRead_of_idle {s : State} (h : s.capacity.held = none) :
    startRead s = s.withCapacity { s.capacity with held := some s.capacity.newest } := by
  simp only [startRead, h]

/-- A read that arrives while one is in flight is answered BUSY (R146). -/
theorem startRead_of_sending {s : State} (h : s.capacity.held ≠ none) :
    startRead s = s.withCapacity { s.capacity with replies := s.capacity.replies ++ [.busy] } := by
  obtain ⟨b, hb⟩ := Option.ne_none_iff_exists'.1 h
  simp only [startRead, reply, hb]

/-! ### The framing and the end of a read (R145, R147, R151) -/

theorem exec_capacityLinkReset_of_down {s : State} (h : s.capacity.framing = false) (n : Fin 30) :
    exec (.capacityLinkReset n) s = .next s := by
  simp [exec, execCapacityLinkReset, h]

theorem exec_capacityLinkReset_of_up {s : State} (h : s.capacity.framing = true) (n : Fin 30) :
    exec (.capacityLinkReset n) s = .next (capacityReset n.val s) := by
  simp only [exec, execCapacityLinkReset, if_pos h]

theorem exec_endOfRead_of_idle {s : State} (h : s.capacity.held = none) : exec .endOfRead s = .next s := by
  simp only [exec, execEndOfRead, h]

theorem exec_endOfRead_of_sending {s : State} {b : Buffer} (h : s.capacity.held = some b) :
    exec .endOfRead s = .next (endRead b s) := by
  simp only [exec, execEndOfRead, h]

/-- Settles O56: each command by the framing, the read in flight and the room in the reply list. -/
theorem capacityReads : Obligations.CapacityReads := by
  refine ⟨fun s => rfl, fun n s => ⟨fun hdown => exec_capacityLinkReset_of_down hdown n, fun hup => ?reset⟩,
    fun m s => ⟨exec_capacityRead_of_not_taken, fun hm hup hidle => ?begins, fun hm hup hsending hroom => ?busy⟩,
    fun s => ⟨exec_endOfRead_of_idle, fun b hb => ?ends⟩⟩
  case reset =>
    rw [exec_capacityLinkReset_of_up hup, capacityReset]
    cases hheld : s.capacity.held with
    | none =>
      rw [abortRead_of_idle hheld]
      rfl
    | some b =>
      rw [abortRead_of_sending hheld]
      rfl
  case begins =>
    rw [exec_capacityRead_of_taken hm hup (.inl hidle), startRead_of_idle hidle]
    rfl
  case busy =>
    rw [exec_capacityRead_of_taken hm hup (.inr hroom), startRead_of_sending hsending]
    rfl
  case ends =>
    rw [exec_endOfRead_of_sending hb, endRead_eq]
    rfl

end Sys2Proof.Machine
end

section
/-! PROOFS. The event flags of the Control Link Interface (R172 to R175): O11 and O13. -/

namespace Sys2Proof.Machine

/-! ### Events as the bits of a set (R190) -/

/-- The events in the order of their bits. -/
def Event.inBitOrder : List Event :=
  [.restarted, .stateChanged, .ladderMismatch, .pinFault, .peerUp, .peerDown, .echoFault, .foreignSignal, .branchLost,
    .burstOverflowA, .burstOverflowB, .branchSwitched, .longFadeA, .longFadeB, .fastFadingOn, .fastFadingOff,
    .profileChangedRx, .profileFollowed, .requestStalled, .profileChangedTx, .drainTimeout]

theorem Event.inBitOrder_bits : Event.inBitOrder.map Event.bit = List.range 21 := rfl

theorem Event.inBitOrder_bit (e : Event) : Event.inBitOrder[e.bit]? = some e := by cases e <;> rfl

theorem Event.bit_lt (e : Event) : e.bit < 21 := by cases e <;> decide

theorem Event.bit_inj {e x : Event} : e.bit = x.bit ↔ e = x := by
  refine ⟨fun h => Option.some.inj ?_, congrArg Event.bit⟩
  rw [← e.inBitOrder_bit, h, x.inBitOrder_bit]

theorem Event.exists_bit {i : Nat} (h : i < 21) : ∃ e : Event, e.bit = i := by
  have hi : i ∈ Event.inBitOrder.map Event.bit := Event.inBitOrder_bits ▸ List.mem_range.2 h
  obtain ⟨e, -, he⟩ := List.mem_map.1 hi
  exact ⟨e, he⟩

theorem EventSet.has_and (x y : EventSet) (e : Event) : EventSet.has (x &&& y) e = (x.has e && y.has e) := by
  simp [EventSet.has]

theorem EventSet.has_not (x : EventSet) (e : Event) : EventSet.has (~~~x) e = !x.has e := by
  simp [EventSet.has, e.bit_lt]

theorem Event.flag_has_eq_decide (e x : Event) : e.flag.has x = decide (x = e) := by
  rw [Event.flag_has_eq, decide_eq_decide, Event.bit_inj, eq_comm]

theorem EventSet.ne_zero_iff (x : EventSet) : x ≠ 0#21 ↔ ∃ e : Event, x.has e = true := by
  constructor
  · intro h
    by_contra hnone
    refine h (BitVec.eq_of_getLsbD_eq fun i hi => ?_)
    obtain ⟨e, rfl⟩ := Event.exists_bit hi
    simpa [EventSet.has] using fun he => hnone ⟨e, he⟩
  · rintro ⟨e, he⟩ rfl
    simp [EventSet.has] at he

/-- The attention line is asserted while some pending event is not masked (R173). -/
theorem attentionOf_iff (events mask : EventSet) :
    attentionOf events mask = true ↔ ∃ e : Event, events.has e = true ∧ mask.has e = false := by
  simp [attentionOf, EventSet.ne_zero_iff, EventSet.has_and, EventSet.has_not]

/-- Settles O11: the raised flag is one bit of the pending set and of the reported set, and the line is read from the
sets event by event. -/
theorem raisedEventsArePending : Obligations.RaisedEventsArePending := by
  intro e s
  refine ⟨fun x => ?_, ?_, fun h => ?_, fun r h => ⟨r &&& ~~~e.flag, ?_, fun x => ?_⟩, rfl⟩
  · rw [raise_events, EventSet.has_or, Event.flag_has_eq_decide]
  · rw [raise_attention, raise_events, attentionOf_iff]
  · rw [raise_reported, h, Option.map_none]
  · rw [raise_reported, h, Option.map_some]
  · rw [EventSet.has_and, EventSet.has_not, Event.flag_has_eq_decide, decide_not]

/-! ### CLEAR EVENTS and SET EVENT MASK (R173, R175) -/

theorem exec_clearEvents_of_turn {s t : State} (h : turn .clearEvents s = some t) :
    exec .clearEvents s = .next (clearEvents t) := by
  simp only [exec, execClearEvents, onTurn_of_some h]

theorem exec_setEventMask_of_turn {m : BitVec 24} {s t : State} (h : turn (.setEventMask m) s = some t) :
    exec (.setEventMask m) s = .next (respond (.ok []) (setMask (m.setWidth 21) t)) := by
  simp only [exec, execSetEventMask, onTurn_of_some h]

/-- Settles O13: each command in its turn is its response on the sets written out. -/
theorem eventsAreClearedAndMasked : Obligations.EventsAreClearedAndMasked :=
  ⟨fun _ t h => ⟨clearable t, rfl, exec_clearEvents_of_turn h⟩, fun _ _ _ h => exec_setEventMask_of_turn h⟩

end Sys2Proof.Machine
end

section
/-! PROOFS. Turns and responses of the Control Link Interface (R166 to R168, R178): O9 and O10. -/

namespace Sys2Proof.Machine

/-! ### Whose turn it is -/

theorem turn_eq_some_iff (c : Instr) (s t : State) :
    turn c s = some t ↔ s.control.resetPending = false ∧
      ((s.control.frames = [] ∧ t = s)
        ∨ ∃ f rest, s.control.frames = .complete f :: rest ∧ decodeFrame f = .command c
            ∧ t = s.withControl { s.control with frames := rest }) := by
  unfold turn
  cases hr : s.control.resetPending with
  | true => simp
  | false =>
    cases hf : s.control.frames with
    | nil => simpa using eq_comm
    | cons x rest =>
      cases x with
      | complete f => by_cases hd : decodeFrame f = .command c <;> simp [hd, @eq_comm _ t]
      | failed bytes => simp

/-- Every command of the Control Link is carried out in its turn alone. -/
theorem exec_eq_onTurn {c : Instr} (h : (commandBody c).isSome = true) :
    ∃ act : State → State, ∀ s, exec c s = .next (onTurn c act s) := by
  cases c with
  | readStatus | clearEvents | setEventMask | readCounters | clearCounters | setParameter | readParameter
  | writeLadderEntry | readLadderEntry | setLadderCount | commitLadder | revertLadder | start | stop | hold | resume
  | pin | unpin | excludeBranch | includeBranch | softReset => exact ⟨_, fun _ => rfl⟩
  | _ => simp [commandBody] at h

theorem exec_of_no_turn {c : Instr} {s : State} (h : (commandBody c).isSome = true) (ht : turn c s = none) :
    exec c s = .next s := by
  obtain ⟨act, hact⟩ := exec_eq_onTurn h
  rw [hact, onTurn_of_none ht]

/-! ### UNKNOWN_COMMAND (R166) -/

section

variable {f : List Byte} {r : Response} {s : State}

theorem frameRefusal_of_refused (hf : frameComplete f = true) (hd : decodeFrame f = .refused r) :
    frameRefusal f = some r := by simp [frameRefusal, hf, hd]

theorem exec_unknownCommand_of_turn {t : State} (hr : frameRefusal f = some r) (ht : turnOfFrame f s = some t) :
    exec (.unknownCommand f) s = .next (respond r t) := by simp [exec, execUnknownCommand, hr, ht]

theorem exec_unknownCommand_of_no_turn (ht : turnOfFrame f s = none) : exec (.unknownCommand f) s = .next s := by
  simp [exec, execUnknownCommand, ht]

theorem turnOfFrame_of_empty (hs : s.control.resetPending = false) (h : s.control.frames = []) :
    turnOfFrame f s = some s := by
  simp [turnOfFrame, hs, h]

theorem turnOfFrame_of_own (hs : s.control.resetPending = false) {rest : List HeldFrame}
    (h : s.control.frames = .complete f :: rest) :
    turnOfFrame f s = some (s.withControl { s.control with frames := rest }) := by
  simp [turnOfFrame, hs, h]

theorem turnOfFrame_of_other {g : HeldFrame} {rest : List HeldFrame} (h : s.control.frames = g :: rest)
    (hg : g ≠ .complete f) : turnOfFrame f s = none := by
  cases g with
  | complete g =>
    have : g ≠ f := fun e => hg (e ▸ rfl)
    simp [turnOfFrame, h, this]
  | failed bytes => simp [turnOfFrame, h]

end

/-- Settles O9: the turn by the frame that waits first, and what a command or a failing frame does with it. -/
theorem commandsKeepTheirTurn : Obligations.CommandsKeepTheirTurn := by
  refine ⟨fun c s => ⟨turn_eq_some_iff c s, exec_of_no_turn⟩, fun f r s hf hd hs => ⟨fun h => ?_, fun rest h => ?_,
    fun g rest h hg => ?_⟩⟩
  · exact exec_unknownCommand_of_turn (frameRefusal_of_refused hf hd) (turnOfFrame_of_empty hs h)
  · exact exec_unknownCommand_of_turn (frameRefusal_of_refused hf hd) (turnOfFrame_of_own hs h)
  · exact exec_unknownCommand_of_no_turn (turnOfFrame_of_other h hg)

/-! ### Responses -/

/-- The failed frames at the head of the store are answered one by one, up to the first that is complete. -/
theorem answerFailed_append (owed rest : List HeldFrame) (s : State) (hs : s.control.frames = owed ++ rest)
    (howed : ∀ f ∈ owed, ∃ bytes, f = .failed bytes) (hrest : ∀ bytes, rest.head? ≠ some (.failed bytes)) :
    answerFailed (owed ++ rest) s =
      { s with
        sent := { s.sent with control := s.sent.control ++ owed.map (fun _ => Response.refusedFormat.frame) }
        control := { s.control with frames := rest } } := by
  induction owed generalizing s with
  | nil =>
    have hnone : answerFailed rest s = s := by
      unfold answerFailed
      split
      · exact absurd rfl (hrest _)
      · rfl
    obtain rfl : rest = s.control.frames := hs.symm
    simpa using hnone
  | cons x owed ih =>
    obtain ⟨bytes, rfl⟩ := howed x List.mem_cons_self
    rw [List.cons_append, answerFailed, ih _ rfl fun f hf => howed f (List.mem_cons_of_mem _ hf)]
    simp [sendControl, State.withSent, State.withControl]

/-- With no frame behind it, the response alone leaves. -/
theorem respond_of_empty {s : State} (r : Response) (h : s.control.frames = []) :
    respond r s = sendControl r.frame s := by
  rw [respond, h, answerFailed]
  simp

/-- Settles O10: the response is logged, and `answerFailed_append` answers the frames behind it. -/
theorem responsesLeaveInOrder : Obligations.ResponsesLeaveInOrder := by
  intro r s owed rest hs howed hrest
  rw [respond, hs, answerFailed_append owed rest (sendControl r.frame s) hs howed hrest]
  simp [sendControl, State.withSent]

end Sys2Proof.Machine
end

section
/-! PROOFS. The input store of the Control Link Interface (R166, R167): O29 and O30. -/

namespace Sys2Proof.Machine

/-! ### A frame that fails -/

section

variable {s : State}

/-- With nothing waiting before it, a frame that fails is answered at once. -/
theorem failFrame_of_idle (bytes : List Byte) (hf : s.control.frames = []) (hr : s.control.resetPending = false) :
    failFrame bytes s = { s with
      control := { s.control with incomplete := [], lost := none, frameStrobes := 0 }
      sent := { s.sent with control := s.sent.control ++ [Response.refusedFormat.frame] } } := by
  rw [failFrame, if_pos ⟨hf, hr⟩, respond_of_empty _ (by simpa using hf)]
  rfl

/-- Behind other frames, or while the response to SOFT RESET is being sent, it is held. -/
theorem failFrame_of_waiting (bytes : List Byte) (h : s.control.frames ≠ [] ∨ s.control.resetPending = true) :
    failFrame bytes s = { s with control :=
      { s.control with
        frames := s.control.frames ++ [.failed bytes]
        incomplete := []
        lost := none
        frameStrobes := 0 } } := by
  refine if_neg fun ⟨hf, hr⟩ => ?_
  rcases h with h | h
  · exact h hf
  · simp [hr] at h

end

/-! ### A byte arrives -/

/-- How far a frame has come with the next byte, whether or not bytes of it are held (R166). -/
theorem extentAfter_eq (lost : Option Extent) (incomplete : List Byte) (b : Byte) :
    extentAfter (lost <|> heldExtent incomplete) b = match lost, incomplete with
      | some .lengthNext, _ => .remaining (b.toNat + 2)
      | some (.remaining n), _ => .remaining (n - 1)
      | none, [] => .lengthNext
      | none, [_] => .remaining (b.toNat + 2)
      | none, _ :: len :: rest => .remaining (len.toNat + 2 - rest.length - 1) := by
  obtain _ | _ | n := lost
  · obtain _ | ⟨x, _ | ⟨len, rest⟩⟩ := incomplete <;> rfl
  · rfl
  · rfl

theorem ControlLink.takeByte_of_last {k : ControlLink} {b : Byte} (h : frameComplete (k.incomplete ++ [b]) = true) :
    k.takeByte b =
      { k with frames := k.frames ++ [.complete (k.incomplete ++ [b])], incomplete := [], frameStrobes := 0 } :=
  if_pos h

theorem ControlLink.takeByte_of_not_last {k : ControlLink} {b : Byte}
    (h : frameComplete (k.incomplete ++ [b]) = false) :
    k.takeByte b = { k with incomplete := k.incomplete ++ [b], frameStrobes := 0 } :=
  if_neg (by simp [h])

theorem exec_controlLinkByteArrival (b : Byte) (s : State) :
    exec (.controlLinkByteArrival b) s = .next (arriveByte b s) := rfl

/-- A byte that every byte of its frame has found room before. -/
theorem arriveByte_of_held {s : State} (b : Byte) (hlost : s.control.lost = none) (hroom : s.control.stored < 512) :
    arriveByte b s = s.withControl (s.control.takeByte b) := by
  obtain ⟨hfull, -⟩ | ⟨-, h, -⟩ | ⟨-, -, h⟩ := arriveByte_cases b s
  · omega
  · exact absurd hlost h
  · exact h

/-- A byte that finds the store full, or whose frame has lost one before. -/
theorem arriveByte_of_lossy {s : State} (b : Byte) (h : s.control.lost ≠ none ∨ 512 ≤ s.control.stored) :
    arriveByte b s =
      lossyByte b (if 512 ≤ s.control.stored then s.control.incomplete else s.control.incomplete ++ [b]) s := by
  obtain ⟨hfull, hb⟩ | ⟨hroom, -, hb⟩ | ⟨hroom, hnone, -⟩ := arriveByte_cases b s
  · rw [hb, if_pos hfull]
  · rw [hb, if_neg (by omega)]
  · rcases h with h | h
    · exact absurd hnone h
    · omega

theorem lossyByte_of_last {s : State} {b : Byte} (held : List Byte)
    (h : extentAfter (s.control.lost <|> heldExtent s.control.incomplete) b = .remaining 0) :
    lossyByte b held s = failFrame held s := by
  obtain ⟨-, hb⟩ | ⟨x, hx, rfl, -⟩ := lossyByte_cases b held s
  · exact hb
  · exact absurd h hx

theorem lossyByte_of_not_last {s : State} {b : Byte} {x : Extent} (held : List Byte)
    (h : extentAfter (s.control.lost <|> heldExtent s.control.incomplete) b = x) (hx : x ≠ .remaining 0) :
    lossyByte b held s =
      s.withControl { s.control with incomplete := held, lost := some x, frameStrobes := 0 } := by
  obtain ⟨hlast, -⟩ | ⟨y, -, rfl, hb⟩ := lossyByte_cases b held s
  · exact absurd (h.symm.trans hlast) hx
  · rw [hb, h]

/-- Settles O29: a byte of a frame that is held whole by `takeByte`, and one of a frame that loses bytes by how far the
frame has come with it. -/
theorem bytesFormFrames : Obligations.BytesFormFrames := by
  intro b s
  refine ⟨fun hlost hroom => ⟨fun hlast => ?_, fun hmore => ?_⟩, fun held x hlossy hheld hx => ?_⟩
  · rw [exec_controlLinkByteArrival, arriveByte_of_held b hlost hroom, ControlLink.takeByte_of_last hlast]
    rfl
  · rw [exec_controlLinkByteArrival, arriveByte_of_held b hlost hroom, ControlLink.takeByte_of_not_last hmore]
    rfl
  · have hextent : extentAfter (s.control.lost <|> heldExtent s.control.incomplete) b = x :=
      (extentAfter_eq _ _ _).trans hx.symm
    rw [exec_controlLinkByteArrival, arriveByte_of_lossy b hlossy, ← hheld]
    refine ⟨fun hmore => ?_, fun hlast hf hr => ?_, fun hlast hwait => ?_⟩
    · rw [lossyByte_of_not_last held hextent hmore]
      rfl
    · rw [lossyByte_of_last held (hextent.trans hlast), failFrame_of_idle held hf hr]
    · rw [lossyByte_of_last held (hextent.trans hlast), failFrame_of_waiting held hwait]

/-! ### The frame timeout -/

theorem ControlLink.midFrame_iff (k : ControlLink) : k.midFrame = true ↔ k.incomplete ≠ [] ∨ k.lost ≠ none := by
  simp [ControlLink.midFrame, Option.isSome_iff_ne_none]

theorem frameTimesOut_iff (s : State) :
    frameTimesOut s = true ↔ s.control.midFrame = true ∧ 8 ≤ s.control.frameStrobes + 1 := by
  simp [frameTimesOut, Config.frameStrobeLimit]

section

variable {s : State}

theorem exec_frameTimeout_of_timeout (h : frameTimesOut s = true) :
    exec .frameTimeout s = .next (failFrame [] s) ∧ exec .frameStrobeCount s = exec .frameTimeout s := by
  simp [exec, execFrameTimeout, execFrameStrobeCount, frameStrobe, h]

theorem exec_frameTimeout_of_no_timeout (h : ¬ frameTimesOut s = true) : exec .frameTimeout s = .next s := by
  simp [exec, execFrameTimeout, h]

theorem exec_frameStrobeCount_of_counted (h : ¬ frameTimesOut s = true) (hmid : s.control.midFrame = true) :
    exec .frameStrobeCount s
      = .next { s with control := { s.control with frameStrobes := s.control.frameStrobes + 1 } } := by
  simp [exec, execFrameStrobeCount, frameStrobe, h, hmid, State.withControl]

theorem exec_frameStrobeCount_of_no_frame (hmid : ¬ s.control.midFrame = true) :
    exec .frameStrobeCount s = .next s := by
  simp [exec, execFrameStrobeCount, frameStrobe, frameTimesOut_iff, hmid]

end

/-- Settles O30: no frame, a count below the limit, and the two ways in which the frame timed out is answered. -/
theorem incompleteFramesTimeOut : Obligations.IncompleteFramesTimeOut := by
  intro s begun hbegun
  rw [← s.control.midFrame_iff] at hbegun
  refine ⟨fun hnone => ?_, fun hb hcount => ?_, fun hb hlimit hf hr => ?_, fun hb hlimit hwait => ?_⟩
  · have hmid : ¬ s.control.midFrame = true := fun h => hnone (hbegun.2 h)
    exact ⟨exec_frameStrobeCount_of_no_frame hmid,
      exec_frameTimeout_of_no_timeout fun h => hmid ((frameTimesOut_iff s).1 h).1⟩
  · have hno : ¬ frameTimesOut s = true := fun h => by
      have := ((frameTimesOut_iff s).1 h).2
      omega
    exact ⟨exec_frameStrobeCount_of_counted hno (hbegun.1 hb), exec_frameTimeout_of_no_timeout hno⟩
  · have htimeout := exec_frameTimeout_of_timeout ((frameTimesOut_iff s).2 ⟨hbegun.1 hb, hlimit⟩)
    rwa [failFrame_of_idle [] hf hr] at htimeout
  · have htimeout := exec_frameTimeout_of_timeout ((frameTimesOut_iff s).2 ⟨hbegun.1 hb, hlimit⟩)
    rwa [failFrame_of_waiting [] hwait] at htimeout

end Sys2Proof.Machine
end

section
/-! PROOFS. Parameters: the table of R169 and the refusals of R170: O15. -/

namespace Sys2Proof.Machine

/-! ### The table (R169) -/

/-- Which identifier names which parameter. -/
def ParamId.table : List (Nat × ParamId) :=
  [(1, .smoothingShift), (2, .slopeSpan), (3, .horizon), (4, .upshiftDwell), (5, .burstThresholdA),
    (6, .burstThresholdB), (7, .fadeThresholdA), (8, .fadeThresholdB), (9, .fadeHysteresis), (10, .durationLimit),
    (11, .recurrenceLimit), (12, .mode), (13, .selectHysteresis), (14, .selectDwell), (15, .followCount),
    (16, .commitLead), (17, .emergencyLead), (18, .drainTimeout), (19, .stallLimit), (20, .peerTimeout), (21, .ownHop),
    (22, .peerHop), (23, .hopMask), (24, .foreignThreshold), (25, .atpc), (26, .rslLow), (27, .rslHigh), (28, .attMin),
    (29, .attMax), (30, .slewIndex)]

theorem ParamId.table_identifiers : ParamId.table.map Prod.fst = List.range' 1 30 := rfl

theorem ParamId.ofByte_of_table : ∀ x ∈ ParamId.table, ParamId.ofByte (byteOf x.1) = some x.2 := by
  simp [ParamId.table, ParamId.ofByte, byteOf]

theorem byteOf_toNat (b : Byte) : byteOf b.toNat = b := (eq_byteOf (by have := b.isLt; omega)).symm

theorem ParamId.ofByte_eq_some_iff (i : Byte) (w : ParamId) :
    ParamId.ofByte i = some w ↔ (i.toNat, w) ∈ ParamId.table := by
  refine ⟨fun h => ?_, fun h => ?_⟩
  · unfold ParamId.ofByte at h
    split at h <;> cases h <;> simp [ParamId.table, *]
  · simpa [byteOf_toNat] using ParamId.ofByte_of_table _ h

theorem ParamId.ofByte_eq_none_iff (i : Byte) : ParamId.ofByte i = none ↔ i.toNat = 0 ∨ 30 < i.toNat := by
  have hnamed : (∃ w, ParamId.ofByte i = some w) ↔ 1 ≤ i.toNat ∧ i.toNat < 31 := by
    rw [← List.mem_range'_1 (n := 30), ← ParamId.table_identifiers]
    simp [ParamId.ofByte_eq_some_iff]
  rw [Option.eq_none_iff_forall_ne_some, ← not_exists, hnamed]
  omega

/-- The mode is read as its code (R169). -/
theorem Params.read_mode (p : Params) : p.read .mode = match p.mode with
    | .singleA => 0
    | .singleB => 1
    | .select => 2
    | .combine => 3 := by
  simp only [Params.read]
  cases p.mode <;> rfl

/-! ### SET PARAMETER is refused (R170) -/

section

variable {p : Params} {i : Byte} {v : BitVec 32} {w : ParamId}

theorem Params.judge_of_unnamed (h : ParamId.ofByte i = none) : p.judge i v = .badFormat := by
  simp [Params.judge, h]

theorem Params.judge_of_outside (hi : ParamId.ofByte i = some w) (hcoded : w.coded = true)
    (h : v.toInt < w.range.1 ∨ w.range.2 < v.toInt) : p.judge i v = .badFormat := by
  have hclamped : clampInt w.range.1 w.range.2 v.toInt ≠ v.toInt := by
    have := w.range_nonempty
    rw [clampInt_eq _ _ _ this]
    omega
  simp [Params.judge, hi, hcoded, hclamped]

theorem Params.judge_of_inconsistent (hi : ParamId.ofByte i = some w) (hcoded : w.coded = false)
    (h : p.consistent w (max w.range.1 (min w.range.2 v.toInt)) = false) : p.judge i v = .inconsistent := by
  rw [← clampInt_eq _ _ _ w.range_nonempty] at h
  simp [Params.judge, hi, hcoded, h]

variable {s t : State} (ht : turn (.setParameter i v) s = some t)
include ht

theorem exec_setParameter_of_badFormat (h : t.params.judge i v = .badFormat) :
    exec (.setParameter i v) s = .next (respond .refusedFormat t) := by
  rw [exec_setParameter_of_turn ht, setParameter, h]

theorem exec_setParameter_of_inconsistent (hi : ParamId.ofByte i = some w) (hcoded : w.coded = false)
    (h : t.params.consistent w (max w.range.1 (min w.range.2 v.toInt)) = false) :
    exec (.setParameter i v) s = .next (respond .refusedInconsistent t) := by
  rw [exec_setParameter_of_turn ht, setParameter, Params.judge_of_inconsistent hi hcoded h]

end

/-! ### READ PARAMETER (R171) -/

theorem exec_readParameter_of_turn {i : Byte} {s t : State} (h : turn (.readParameter i) s = some t) :
    exec (.readParameter i) s = .next (readParameter i t) := by
  simp only [exec, execReadParameter, onTurn_of_some h]

/-- Settles O15: the table row by row, each refusal by the step of R170 that makes it, and the value that is read. -/
theorem parametersAreJudgedAndReadBack : Obligations.ParametersAreJudgedAndReadBack := by
  refine ⟨⟨ParamId.ofByte_eq_some_iff, rfl, fun p => ?_⟩, fun i v s t ht => ⟨fun hi => ?unnamed, ?_⟩,
    fun i s t ht => ⟨ParamId.ofByte_eq_none_iff i, ?read⟩⟩
  · exact ⟨rfl, rfl, rfl, rfl, rfl, rfl, rfl, rfl, rfl, rfl, rfl, p.read_mode, rfl, rfl, rfl, rfl, rfl, rfl, rfl, rfl,
      rfl, rfl, rfl, rfl, rfl, rfl, rfl, rfl, rfl, rfl⟩
  case unnamed =>
    exact exec_setParameter_of_badFormat ht (Params.judge_of_unnamed ((ParamId.ofByte_eq_none_iff i).2 hi))
  case read =>
    rw [exec_readParameter_of_turn ht]
    cases h : ParamId.ofByte i <;> simp [readParameter, h]
  refine ⟨?mode, ?atpc, ?rslLow, ?rslHigh, ?attMin, ?attMax⟩
  case mode =>
    rintro rfl hv
    exact exec_setParameter_of_badFormat ht (Params.judge_of_outside (w := .mode) rfl rfl hv)
  case atpc =>
    rintro rfl hv
    exact exec_setParameter_of_badFormat ht (Params.judge_of_outside (w := .atpc) rfl rfl hv)
  case rslLow =>
    rintro rfl hv
    exact exec_setParameter_of_inconsistent ht (w := .rslLow) rfl rfl (decide_eq_false (not_lt.2 hv))
  case rslHigh =>
    rintro rfl hv
    exact exec_setParameter_of_inconsistent ht (w := .rslHigh) rfl rfl (decide_eq_false (not_lt.2 hv))
  case attMin =>
    rintro rfl hv
    exact exec_setParameter_of_inconsistent ht (w := .attMin) rfl rfl (decide_eq_false (not_le.2 hv))
  case attMax =>
    rintro rfl hv
    exact exec_setParameter_of_inconsistent ht (w := .attMax) rfl rfl (decide_eq_false (not_le.2 hv))

end Sys2Proof.Machine
end

section
/-! PROOFS. Command frames (R166, R181, R187, R190): O6 and O7. -/

namespace Sys2Proof.Machine

/-! ### Bytes side by side, split and joined -/

theorem extractLsb'_append_high {n : Nat} (x : BitVec n) (y : Byte) (k m : Nat) (h : 8 ≤ k) :
    (x ++ y).extractLsb' k m = x.extractLsb' (k - 8) m := by
  refine BitVec.eq_of_getLsbD_eq fun i hi => ?_
  simp [BitVec.getLsbD_append, hi, show ¬ k + i < 8 by omega, show k + i - 8 = k - 8 + i by omega]

theorem extractLsb'_append_low {n : Nat} (x : BitVec n) (y : Byte) : (x ++ y).extractLsb' 0 8 = y := by
  refine BitVec.eq_of_getLsbD_eq fun i hi => ?_
  simp [BitVec.getLsbD_append, hi]

theorem be16_append (x y : Byte) : be16 (x ++ y) = [x, y] := ((eq_be16_iff x y _).2 rfl).symm

theorem be24_append (x y z : Byte) : be24 (x ++ y ++ z) = [x, y, z] := by
  simp [be24, extractLsb'_append_high, extractLsb'_append_low]

theorem be32_append (w x y z : Byte) : be32 (w ++ x ++ y ++ z) = [w, x, y, z] := by
  simp [be32, extractLsb'_append_high, extractLsb'_append_low]

theorem append_of_be24 (v : BitVec 24) :
    (v.extractLsb' 16 8 ++ v.extractLsb' 8 8 ++ v.extractLsb' 0 8 : BitVec 24) = v := by
  apply BitVec.eq_of_toNat_eq
  have := v.isLt
  simp only [toNat_append_eq_add, toNat_extractLsb']
  omega

theorem append_of_be32 (v : BitVec 32) :
    (v.extractLsb' 24 8 ++ v.extractLsb' 16 8 ++ v.extractLsb' 8 8 ++ v.extractLsb' 0 8 : BitVec 32) = v := by
  apply BitVec.eq_of_toNat_eq
  have := v.isLt
  simp only [toNat_append_eq_add, toNat_extractLsb']
  omega

/-! ### The fields of a ladder entry (R187) -/

theorem entryFlags_eq_byteOf (e : Bool) (m : BitVec 4) (c : BitVec 3) :
    (BitVec.ofBool e ++ m ++ c : Byte) = byteOf ((if e then 128 else 0) + 8 * m.toNat + c.toNat) := by
  apply eq_byteOf
  simp only [toNat_append_eq_add, toNat_ofBool_eq]
  have := m.isLt
  have := c.isLt
  cases e <;> simp <;> omega

/-- The first byte of an entry, read back bit by bit. -/
theorem entryFlags_fields (e : Bool) (m : BitVec 4) (c : BitVec 3) :
    (BitVec.ofBool e ++ m ++ c : Byte).getLsbD 7 = e ∧ (BitVec.ofBool e ++ m ++ c : Byte).extractLsb' 3 4 = m
      ∧ (BitVec.ofBool e ++ m ++ c : Byte).extractLsb' 0 3 = c := by
  have := m.isLt
  have := c.isLt
  refine ⟨?_, BitVec.eq_of_toNat_eq ?_, BitVec.eq_of_toNat_eq ?_⟩
  · rw [getLsbD_eq_decide, toNat_append_eq_add, toNat_append_eq_add, toNat_ofBool_eq]
    cases e <;> simp <;> omega
  · simp only [toNat_extractLsb', toNat_append_eq_add, toNat_ofBool_eq]
    omega
  · simp only [toNat_extractLsb', toNat_append_eq_add, toNat_ofBool_eq]
    omega

theorem entryFlags_append (f : Byte) :
    (BitVec.ofBool (f.getLsbD 7) ++ f.extractLsb' 3 4 ++ f.extractLsb' 0 3 : Byte) = f := by
  apply BitVec.eq_of_toNat_eq
  have := f.isLt
  simp only [toNat_append_eq_add, toNat_ofBool_eq, getLsbD_eq_decide, toNat_extractLsb', decide_eq_true_eq]
  split <;> omega

/-- The bytes of an entry are read back as its fields. -/
theorem entryFieldsOf_bytes (e : EntryFields) :
    entryFieldsOf (BitVec.ofBool e.enabled ++ e.modulation ++ e.codeClass) (e.capacity.extractLsb' 24 8)
      (e.capacity.extractLsb' 16 8) (e.capacity.extractLsb' 8 8) (e.capacity.extractLsb' 0 8)
      (e.down.extractLsb' 8 8) (e.down.extractLsb' 0 8) (e.up.extractLsb' 8 8) (e.up.extractLsb' 0 8)
      (e.minDwell.extractLsb' 8 8) (e.minDwell.extractLsb' 0 8) = e := by
  obtain ⟨henabled, hmodulation, hclass⟩ := entryFlags_fields e.enabled e.modulation e.codeClass
  simp only [entryFieldsOf, henabled, hmodulation, hclass, append_of_be16, append_of_be32]

/-! ### Commands and their bodies (R190) -/

/-- The body of a command is read back as that command. -/
theorem commandOf_of_commandBody {c : Instr} {code : Byte} {body : List Byte} (h : commandBody c = some (code, body)) :
    commandOf code body = some c := by
  cases c with
  | setEventMask m =>
    cases h
    exact congrArg (fun x => some (Instr.setEventMask x)) (append_of_be24 m)
  | setParameter i v =>
    cases h
    exact congrArg (fun x => some (Instr.setParameter i x)) (append_of_be32 v)
  | writeLadderEntry i e =>
    cases h
    exact congrArg (fun x => some (Instr.writeLadderEntry i x)) (entryFieldsOf_bytes e)
  | readStatus | clearEvents | readCounters | clearCounters | readParameter | readLadderEntry | setLadderCount
  | commitLadder | revertLadder | start | stop | hold | resume | pin | unpin | excludeBranch | includeBranch
  | softReset =>
    cases h
    rfl
  | _ => cases h

theorem exists_commandBody_of_length_one {code : Byte} {body : List Byte} (command : Byte → Instr)
    (h : ∀ b, commandBody (command b) = some (code, [b])) (hlength : 1 = body.length) :
    ∃ c', commandBody c' = some (code, body) := by
  obtain ⟨b, rfl⟩ := List.length_eq_one_iff.1 hlength.symm
  exact ⟨command b, h b⟩

/-- Every body of a command's length is the body of a command with its command byte. -/
theorem exists_commandBody_of_length {c : Instr} {code : Byte} {x body : List Byte}
    (h : commandBody c = some (code, x)) (hlength : x.length = body.length) :
    ∃ c', commandBody c' = some (code, body) := by
  cases c with
  | readStatus | clearEvents | readCounters | clearCounters | commitLadder | revertLadder | start | stop | hold | resume
  | unpin | softReset =>
    have hx := h
    cases h
    rw [List.length_eq_zero_iff.1 hlength.symm]
    exact ⟨_, hx⟩
  | readParameter =>
    cases h
    exact exists_commandBody_of_length_one .readParameter (fun _ => rfl) hlength
  | setLadderCount =>
    cases h
    exact exists_commandBody_of_length_one .setLadderCount (fun _ => rfl) hlength
  | pin =>
    cases h
    exact exists_commandBody_of_length_one .pin (fun _ => rfl) hlength
  | excludeBranch =>
    cases h
    exact exists_commandBody_of_length_one .excludeBranch (fun _ => rfl) hlength
  | includeBranch =>
    cases h
    exact exists_commandBody_of_length_one .includeBranch (fun _ => rfl) hlength
  | readLadderEntry =>
    cases h
    obtain ⟨copy, i, rfl⟩ := List.length_eq_two.1 hlength.symm
    exact ⟨.readLadderEntry copy i, rfl⟩
  | setEventMask =>
    cases h
    obtain ⟨x, y, z, rfl⟩ := List.length_eq_three.1 hlength.symm
    exact ⟨.setEventMask (x ++ y ++ z), by rw [commandBody, be24_append]⟩
  | setParameter =>
    cases h
    match body, hlength with
    | [i, v0, v1, v2, v3], _ => exact ⟨.setParameter i (v0 ++ v1 ++ v2 ++ v3), by rw [commandBody, be32_append]⟩
  | writeLadderEntry =>
    cases h
    match body, hlength with
    | [i, f, k0, k1, k2, k3, d0, d1, u0, u1, m0, m1], _ =>
      refine ⟨.writeLadderEntry i (entryFieldsOf f k0 k1 k2 k3 d0 d1 u0 u1 m0 m1), ?_⟩
      rw [commandBody, entryFieldsOf, entryFlags_append, be32_append, be16_append, be16_append, be16_append]
      rfl
  | _ => cases h

/-! ### A body of another length is no command (R166 check 3) -/

theorem commandOf_setEventMask_of_length {body : List Byte} (h : body.length ≠ 3) : commandOf 0x03#8 body = none := by
  iterate 3
    obtain _ | ⟨_, body⟩ := body
    · rfl
  obtain _ | ⟨_, body⟩ := body
  · exact absurd rfl h
  · rfl

theorem commandOf_setParameter_of_length {body : List Byte} (h : body.length ≠ 5) : commandOf 0x06#8 body = none := by
  iterate 5
    obtain _ | ⟨_, body⟩ := body
    · rfl
  obtain _ | ⟨_, body⟩ := body
  · exact absurd rfl h
  · rfl

theorem commandOf_writeLadderEntry_of_length {body : List Byte} (h : body.length ≠ 12) :
    commandOf 0x10#8 body = none := by
  iterate 12
    obtain _ | ⟨_, body⟩ := body
    · rfl
  obtain _ | ⟨_, body⟩ := body
  · exact absurd rfl h
  · rfl

theorem commandOf_of_other_length {c : Instr} {code : Byte} {x body : List Byte}
    (h : commandBody c = some (code, x)) (hlength : x.length ≠ body.length) : commandOf code body = none := by
  cases c with
  | readStatus | clearEvents | readCounters | clearCounters | commitLadder | revertLadder | start | stop | hold | resume
  | unpin | softReset =>
    cases h
    match body, hlength with
    | _ :: _, _ => rfl
  | readParameter | setLadderCount | pin | excludeBranch | includeBranch =>
    cases h
    match body, hlength with
    | [], _ => rfl
    | _ :: _ :: _, _ => rfl
  | readLadderEntry =>
    cases h
    match body, hlength with
    | [], _ => rfl
    | [_], _ => rfl
    | _ :: _ :: _ :: _, _ => rfl
  | setEventMask =>
    cases h
    exact commandOf_setEventMask_of_length hlength.symm
  | setParameter =>
    cases h
    exact commandOf_setParameter_of_length hlength.symm
  | writeLadderEntry =>
    cases h
    exact commandOf_writeLadderEntry_of_length hlength.symm
  | _ => cases h

/-! ### The command bytes (R166 check 2) -/

/-- One command for each command byte, in the order of R190. -/
def Instr.controlCommands : List Instr :=
  [.readStatus, .clearEvents, .setEventMask 0#24, .readCounters, .clearCounters, .setParameter 0#8 0#32,
    .readParameter 0#8, .writeLadderEntry 0#8 ⟨false, 0#4, 0#3, 0#32, 0#16, 0#16, 0#16⟩, .readLadderEntry 0#8 0#8,
    .setLadderCount 0#8, .commitLadder, .revertLadder, .start, .stop, .hold, .resume, .pin 0#8, .unpin,
    .excludeBranch 0#8, .includeBranch 0#8, .softReset]

theorem knownCommand_of_commandBody {c : Instr} {code : Byte} {body : List Byte}
    (h : commandBody c = some (code, body)) : knownCommand code = true := by
  cases c with
  | readStatus | clearEvents | setEventMask | readCounters | clearCounters | setParameter | readParameter
  | writeLadderEntry | readLadderEntry | setLadderCount | commitLadder | revertLadder | start | stop | hold | resume
  | pin | unpin | excludeBranch | includeBranch | softReset =>
    cases h
    rfl
  | _ => cases h

theorem exists_commandBody_of_known {code : Byte} (h : knownCommand code = true) :
    ∃ c x, commandBody c = some (code, x) := by
  have hcode : some code ∈ Instr.controlCommands.map (fun c => (commandBody c).map Prod.fst) :=
    List.mem_map_of_mem (f := some) (of_decide_eq_true h)
  obtain ⟨c, -, hc⟩ := List.mem_map.1 hcode
  obtain ⟨⟨_, x⟩, hbody, rfl⟩ := Option.map_eq_some_iff.1 hc
  exact ⟨c, x, hbody⟩

theorem knownCommand_toNat {code : Byte} (h : knownCommand code = true) :
    code.toNat ∈ [0x01, 0x02, 0x03, 0x04, 0x05, 0x06, 0x07, 0x10, 0x11, 0x12, 0x13, 0x14, 0x20, 0x21, 0x22, 0x23, 0x24,
      0x25, 0x30, 0x31, 0x40] :=
  List.mem_map_of_mem (f := BitVec.toNat) (of_decide_eq_true h)

/-! ### Frames (R166, R181) -/

section

variable {code len h l : Byte} {body : List Byte}

theorem frameComplete_of_length (hlength : body.length = len.toNat) :
    frameComplete (code :: len :: (body ++ [h, l])) = true := by simp [frameComplete, hlength]

/-- A frame is judged by what stands before its last two bytes and by these two. -/
theorem decodeFrame_parts :
    (code :: len :: (body ++ [h, l])).take ((code :: len :: (body ++ [h, l])).length - 2) = code :: len :: body
      ∧ (code :: len :: (body ++ [h, l])).drop ((code :: len :: (body ++ [h, l])).length - 2) = [h, l] := by
  have hlength : (code :: len :: (body ++ [h, l])).length - 2 = (code :: len :: body).length := by simp
  rw [hlength]
  exact ⟨List.take_left (l₁ := code :: len :: body), List.drop_left (l₁ := code :: len :: body)⟩

theorem decodeFrame_of_bad_crc (hcrc : h ++ l ≠ crc16 (code :: len :: body)) :
    decodeFrame (code :: len :: (body ++ [h, l])) = .refused .refusedFormat := by
  simp only [decodeFrame, decodeFrame_parts, eq_be16_iff, hcrc, if_false]

variable (hcrc : h ++ l = crc16 (code :: len :: body))
include hcrc

theorem decodeFrame_of_unknown (hcode : knownCommand code = false) :
    decodeFrame (code :: len :: (body ++ [h, l])) = .refused .refusedUnknown := by
  simp only [decodeFrame, decodeFrame_parts, eq_be16_iff, hcrc, hcode, if_true, Bool.false_eq_true, if_false]

theorem decodeFrame_of_bad_length (hcode : knownCommand code = true) (hbody : commandOf code body = none) :
    decodeFrame (code :: len :: (body ++ [h, l])) = .refused .refusedFormat := by
  simp only [decodeFrame, decodeFrame_parts, eq_be16_iff, hcrc, hcode, hbody, if_true]

theorem decodeFrame_of_command {c : Instr} (hbody : commandBody c = some (code, body)) :
    decodeFrame (code :: len :: (body ++ [h, l])) = .command c := by
  simp only [decodeFrame, decodeFrame_parts, eq_be16_iff, hcrc, knownCommand_of_commandBody hbody,
    commandOf_of_commandBody hbody, if_true]

end

/-- Settles O7: the checks in their order, each by what decides it. -/
theorem framesAreJudgedInOrder : Obligations.FramesAreJudgedInOrder := by
  intro code len h l body hlength
  refine ⟨frameComplete_of_length hlength, decodeFrame_of_bad_crc, fun hcrc hunknown => ?_,
    fun hcrc hknown hother => ?_, fun hcrc hown => ?_⟩
  · refine decodeFrame_of_unknown hcrc (Bool.eq_false_iff.2 fun hcode => ?_)
    obtain ⟨c, x, hc⟩ := exists_commandBody_of_known hcode
    exact hunknown c x hc
  · obtain ⟨c, x, hc⟩ := hknown
    exact decodeFrame_of_bad_length hcrc (knownCommand_of_commandBody hc) (commandOf_of_other_length hc (hother c x hc))
  · obtain ⟨c, x, hc, hx⟩ := hown
    obtain ⟨c', hc'⟩ := exists_commandBody_of_length hc hx
    exact ⟨c', decodeFrame_of_command hcrc hc', hc'⟩

/-! ### The frame of each command (R190) -/

theorem commandBody_length_lt {c : Instr} {code : Byte} {body : List Byte} (h : commandBody c = some (code, body)) :
    body.length < 256 := by
  cases c with
  | readStatus | clearEvents | setEventMask | readCounters | clearCounters | setParameter | readParameter
  | writeLadderEntry | readLadderEntry | setLadderCount | commitLadder | revertLadder | start | stop | hold | resume
  | pin | unpin | excludeBranch | includeBranch | softReset =>
    cases h
    simp [be16, be24, be32]
  | _ => cases h

theorem commandFrame_of_commandBody {c : Instr} {code : Byte} {body : List Byte}
    (h : commandBody c = some (code, body)) : commandFrame c = some (controlFrame code body) := by
  rw [commandFrame, h]
  rfl

/-- The frame of a command is complete and is read back as that command. -/
theorem controlFrame_of_command {c : Instr} {code : Byte} {body : List Byte} (h : commandBody c = some (code, body)) :
    frameComplete (controlFrame code body) = true ∧ decodeFrame (controlFrame code body) = .command c := by
  have hlength : body.length = (byteOf body.length).toNat := by
    rw [toNat_byteOf, Nat.mod_eq_of_lt (commandBody_length_lt h)]
  exact ⟨frameComplete_of_length hlength, decodeFrame_of_command (append_of_be16 _) h⟩

theorem be16_eq_byteOf (v : BitVec 16) : be16 v = [byteOf (v.toNat / 256), byteOf v.toNat] := by
  simp [be16, extractLsb'_eq_byteOf]

theorem be24_eq_byteOf (v : BitVec 24) :
    be24 v = [byteOf (v.toNat / 65536), byteOf (v.toNat / 256), byteOf v.toNat] := by
  simp [be24, extractLsb'_eq_byteOf]

theorem be32_eq_byteOf (v : BitVec 32) :
    be32 v = [byteOf (v.toNat / 16777216), byteOf (v.toNat / 65536), byteOf (v.toNat / 256), byteOf v.toNat] := by
  simp [be32, extractLsb'_eq_byteOf]

/-- Settles O6: the frame by `controlFrame_of_command`, and each row of R190 by the layout of its operands. -/
theorem commandFramesRoundTrip : Obligations.CommandFramesRoundTrip := by
  refine ⟨fun c f hf => ?_, fun c code body h => commandFrame_of_commandBody h, rfl, rfl, fun m => ?mask, rfl, rfl,
    fun i v => ?parameter, fun i => rfl, fun i e => ?entry, fun copy i => rfl, fun n => rfl, rfl, rfl, rfl, rfl, rfl,
    rfl, fun p => rfl, rfl, fun l => rfl, fun l => rfl, rfl, fun c code body h => ?code⟩
  · obtain ⟨⟨code, body⟩, hbody, rfl⟩ := Option.map_eq_some_iff.1 hf
    exact controlFrame_of_command hbody
  case mask => rw [commandBody, be24_eq_byteOf]
  case parameter => rw [commandBody, be32_eq_byteOf]
  case entry =>
    rw [commandBody, entryFlags_eq_byteOf, be32_eq_byteOf, be16_eq_byteOf, be16_eq_byteOf, be16_eq_byteOf]
    rfl
  case code => exact knownCommand_toNat (knownCommand_of_commandBody h)

end Sys2Proof.Machine
end

section
/-! SUPPORT. What has left on the links (the model's own log, assumption 6): no operation takes anything of it back. -/

namespace Sys2Proof.Machine

/-- Each log goes on from where it stood. -/
structure Sent.GoesOn (x y : Sent) : Prop where
  control : x.control <+: y.control
  capacity : x.capacity <+: y.capacity
  modem : ∀ l, x.modem.get l <+: y.modem.get l

@[simp] theorem Sent.goesOn_refl (x : Sent) : x.GoesOn x :=
  ⟨List.prefix_rfl, List.prefix_rfl, fun _ => List.prefix_rfl⟩

section

variable {x : Sent} {s : State} (h : x.GoesOn s.sent)
include h

/-! ### Leaving on a link -/

@[simp] theorem sendControl_sent_goesOn (bytes : List Byte) : x.GoesOn (sendControl bytes s).sent :=
  ⟨h.control.trans (List.prefix_append ..), h.capacity, h.modem⟩

@[simp] theorem sendCapacity_sent_goesOn (bytes : List Byte) : x.GoesOn (sendCapacity bytes s).sent :=
  ⟨h.control, h.capacity.trans (List.prefix_append ..), h.modem⟩

@[simp] theorem sendModem_sent_goesOn (l : Branch) (m : ModemMessage) : x.GoesOn (sendModem l m s).sent := by
  refine ⟨h.control, h.capacity, fun k => ?_⟩
  have hk : (s.sent.modem.get k) <+: ((s.sent.modem.set l (s.sent.modem.get l ++ [m.bytes])).get k) := by
    by_cases hkl : k = l
    · subst hkl
      rw [PerBranch.get_set_same]
      exact List.prefix_append ..
    · rw [PerBranch.get_set_other _ _ hkl]
  exact (h.modem k).trans hk

/-! ### The Control Link (Frames.lean) -/

@[simp] theorem answerFailed_sent_goesOn (frames : List HeldFrame) : x.GoesOn (answerFailed frames s).sent := by
  induction frames generalizing s with
  | nil => exact h
  | cons f rest ih =>
    cases f with
    | complete bytes => exact h
    | failed bytes => exact ih (sendControl_sent_goesOn (s := s.withControl { s.control with frames := rest }) h _)

@[simp] theorem respond_sent_goesOn (r : Response) : x.GoesOn (respond r s).sent := by simp [respond, h]

@[simp] theorem failFrame_sent_goesOn (bytes : List Byte) : x.GoesOn (failFrame bytes s).sent := by
  unfold failFrame
  split
  · refine respond_sent_goesOn ?_ _
    exact h
  · exact h

@[simp] theorem lossyByte_sent_goesOn (b : Byte) (held : List Byte) : x.GoesOn (lossyByte b held s).sent := by
  unfold lossyByte; split <;> simp [h]

@[simp] theorem arriveByte_sent_goesOn (b : Byte) : x.GoesOn (arriveByte b s).sent := by
  unfold arriveByte; (repeat' split) <;> simp [h]

@[simp] theorem frameStrobe_sent_goesOn : x.GoesOn (frameStrobe s).sent := by
  unfold frameStrobe; (repeat' split) <;> simp [h]

/-! ### The Capacity Link (Ops.lean, CapacityLink.lean) -/

@[simp] theorem reply_sent_goesOn (r : Reply) : x.GoesOn (reply r s).sent := by
  unfold reply
  split
  · exact sendCapacity_sent_goesOn h _
  · exact h

@[simp] theorem placeAlert_sent_goesOn (a : CapacityAlert) : x.GoesOn (placeAlert a s).sent := by
  unfold placeAlert
  split
  · split
    · exact sendCapacity_sent_goesOn h _
    · exact h
  · exact h

@[simp] theorem requestAlert_sent_goesOn (p : Nat) (switch : Option Superframe) :
    x.GoesOn (requestAlert p switch s).sent := by simp [requestAlert, h]

@[simp] theorem startRead_sent_goesOn : x.GoesOn (startRead s).sent := by
  unfold startRead; split <;> simp [h]

@[simp] theorem abortRead_sent_goesOn (n : Nat) : x.GoesOn (abortRead n s).sent := by
  unfold abortRead
  split
  · exact h
  · exact sendCapacity_sent_goesOn h _

@[simp] theorem capacityReset_sent_goesOn (n : Nat) : x.GoesOn (capacityReset n s).sent := by simp [capacityReset, h]

@[simp] theorem sendReplies_sent_goesOn (rs : List Reply) : x.GoesOn (sendReplies rs s).sent := by
  induction rs generalizing s with
  | nil => exact h
  | cons r rest ih => exact ih (sendCapacity_sent_goesOn h r.bytes)

@[simp] theorem sendAlert_sent_goesOn (a : Option CapacityAlert) : x.GoesOn (sendAlert a s).sent := by
  unfold sendAlert
  split
  · exact sendCapacity_sent_goesOn h _
  · exact h

@[simp] theorem endRead_sent_goesOn (b : Buffer) : x.GoesOn (endRead b s).sent :=
  sendAlert_sent_goesOn (sendReplies_sent_goesOn (sendCapacity_sent_goesOn h _) _) _

/-! ### The transmit engine (Transmit.lean, CapacityLink.lean, SlotRequest.lean) -/

@[simp] theorem commitAlert_sent_goesOn : x.GoesOn (commitAlert s).sent := by
  unfold commitAlert; (repeat' split) <;> simp [h]

@[simp] theorem makeCommit_sent_goesOn (p lead : Nat) (confirmed emergency : Bool) :
    x.GoesOn (makeCommit p lead confirmed emergency s).sent := by simp [makeCommit, h]

@[simp] theorem fallback_sent_goesOn : x.GoesOn (fallback s).sent := by
  unfold fallback; (repeat' split) <;> simp [h]

@[simp] theorem startDrain_sent_goesOn (p : Nat) : x.GoesOn (startDrain p s).sent := by simp [startDrain, h]

@[simp] theorem retarget_sent_goesOn (p timer limit : Nat) : x.GoesOn (retarget p timer limit s).sent := by
  simp [retarget, h]

@[simp] theorem targetSteady_sent_goesOn (p : Nat) (k : RequestKind) : x.GoesOn (targetSteady p k s).sent := by
  unfold targetSteady; (repeat' split) <;> simp [h]

@[simp] theorem targetDraining_sent_goesOn (d timer limit p : Nat) (k : RequestKind) :
    x.GoesOn (targetDraining d timer limit p k s).sent := by
  unfold targetDraining; (repeat' split) <;> simp [h]

@[simp] theorem targetCommitted_sent_goesOn (q : Commit) (p : Nat) (k : RequestKind) :
    x.GoesOn (targetCommitted q p k s).sent := by
  unfold targetCommitted; split <;> simp [h]

@[simp] theorem handleTarget_sent_goesOn (p : Nat) (k : RequestKind) : x.GoesOn (handleTarget p k s).sent := by
  unfold handleTarget; split <;> simp [h]

@[simp] theorem takeRequest_sent_goesOn (r : Request) : x.GoesOn (takeRequest r s).sent := by
  unfold takeRequest; (repeat' split) <;> simp [h]

@[simp] theorem taeHandOff_sent_goesOn (f : PeerFields) : x.GoesOn (taeHandOff f s).sent := by
  unfold taeHandOff takePower; split <;> simp [h]

@[simp] theorem timeOutDrain_sent_goesOn (d : Nat) : x.GoesOn (timeOutDrain d s).sent := by simp [timeOutDrain, h]

@[simp] theorem drainStrobe_sent_goesOn : x.GoesOn (drainStrobe s).sent := by
  unfold drainStrobe; (repeat' split) <;> simp [h]

@[simp] theorem taeStrobe_sent_goesOn : x.GoesOn (taeStrobe s).sent := by simp [taeStrobe, h]

@[simp] theorem drainAnswer_sent_goesOn (r : DrainResult) (p : BitVec 4) : x.GoesOn (drainAnswer r p s).sent := by
  simp [drainAnswer, h]

@[simp] theorem handleDrainReady_sent_goesOn (p : BitVec 4) : x.GoesOn (handleDrainReady p s).sent := by
  unfold handleDrainReady
  split
  · simp [answerAccepted, h]
  · refine drainAnswer_sent_goesOn ?_ _ _
    exact h

@[simp] theorem serveFallback_sent_goesOn : x.GoesOn (serveFallback s).sent := by
  unfold serveFallback
  split
  · split
    · exact fallback_sent_goesOn h
    · exact h
  · exact h

@[simp] theorem handleSlot_sent_goesOn (n : Superframe) : x.GoesOn (handleSlot n s).sent := by simp [handleSlot, h]

/-! ### Changes of link state (Supervisor.lean) -/

@[simp] theorem changeLink_fallback_sent_goesOn (new : LinkState) : x.GoesOn (changeLink new fallback s).sent := by
  simpa [changeLink] using fallback_sent_goesOn (s := s.withLink new) h

@[simp] theorem enterMismatch_fallback_sent_goesOn : x.GoesOn (enterMismatch fallback s).sent := by
  simp [enterMismatch, h]

@[simp] theorem supervisorHandOff_sent_goesOn : x.GoesOn (supervisorHandOff s).sent := by
  unfold supervisorHandOff; (repeat' split) <;> simp [h]

@[simp] theorem supervisorDown_sent_goesOn : x.GoesOn (supervisorDown s).sent := by
  unfold supervisorDown; (repeat' split) <;> simp [h]

/-! ### The Peer Channel and a report (Peer.lean, Report.lean) -/

@[simp] theorem enterDown_sent_goesOn : x.GoesOn (enterDown s).sent := by simp [enterDown, h]

@[simp] theorem handOff_sent_goesOn (f : PeerFields) : x.GoesOn (handOff f s).sent := by simp [handOff, h]

@[simp] theorem acceptWord_sent_goesOn (m : Superframe) (w : OverheadWord) : x.GoesOn (acceptWord m w s).sent := by
  unfold acceptWord; split <;> simp [h]

@[simp] theorem checkIdentity_sent_goesOn (m : Superframe) (w : OverheadWord) :
    x.GoesOn (checkIdentity m w s).sent := by
  unfold checkIdentity checkOrder; (repeat' split) <;> simp [h]

@[simp] theorem checkWord_sent_goesOn (m : Superframe) (bytes : List Byte) : x.GoesOn (checkWord m bytes s).sent := by
  unfold checkWord; split <;> simp [h]

@[simp] theorem silenceStrobe_sent_goesOn : x.GoesOn (silenceStrobe s).sent := by
  unfold silenceStrobe
  split
  · exact h
  · split
    · exact enterDown_sent_goesOn h
    · exact h

@[simp] theorem wordStep_sent_goesOn (r : Report) : x.GoesOn (wordStep r s).sent := by
  unfold wordStep; split <;> simp [h]

@[simp] theorem handleReport_sent_goesOn (l : Branch) (r : Report) : x.GoesOn (handleReport l r s).sent := by
  simp [handleReport, reportWorded, h]

end

end Sys2Proof.Machine
end

section
/-! PROOFS. Every command has a next state, keeps the queue and takes back nothing that has left: O2. -/

namespace Sys2Proof.Machine

/-- A step that keeps the queue and takes back nothing that has left. -/
structure State.GoesOn (s t : State) : Prop where
  pending : t.pending = s.pending
  sent : s.sent.GoesOn t.sent

namespace State.GoesOn

variable {s t : State}

theorem of_eq (hpending : t.pending = s.pending) (hsent : t.sent = s.sent) : s.GoesOn t :=
  ⟨hpending, hsent ▸ s.sent.goesOn_refl⟩

theorem refl (s : State) : s.GoesOn s := of_eq rfl rfl

/-- A row that is the whole step of its arrival when its case comes about, and otherwise changes nothing
(assumption 2). -/
theorem ite (h : s.GoesOn t) (b : Prop) [Decidable b] : s.GoesOn (if b then t else s) := by
  split
  · exact h
  · exact refl s

theorem respond (h : s.GoesOn t) (r : Response) : s.GoesOn (respond r t) :=
  ⟨by simp [h.pending], respond_sent_goesOn h.sent r⟩

/-- A refusal, or an answer that changes nothing, is the response alone. -/
theorem response (r : Response) (s : State) : s.GoesOn (Machine.respond r s) := (refl s).respond r

/-! ### Turns -/

theorem of_turn {c : Instr} (ht : turn c s = some t) : s.GoesOn t := by
  obtain rfl | ⟨_, _, _, rfl⟩ := turn_eq_some ht <;> exact of_eq rfl rfl

theorem of_turnOfFrame {f : List Byte} (ht : turnOfFrame f s = some t) : s.GoesOn t := by
  unfold turnOfFrame at ht
  split at ht
  · cases ht
  · split at ht
    · cases ht
      exact refl s
    · split at ht <;> cases ht
      exact of_eq rfl rfl
    · cases ht

theorem trans {u : State} (h : s.GoesOn t) (h' : t.GoesOn u) : s.GoesOn u :=
  ⟨h'.pending.trans h.pending, h.sent.control.trans h'.sent.control, h.sent.capacity.trans h'.sent.capacity,
    fun l => (h.sent.modem l).trans (h'.sent.modem l)⟩

theorem onTurn (c : Instr) {act : State → State} (hact : ∀ t, State.GoesOn t (act t)) (s : State) :
    s.GoesOn (onTurn c act s) := by
  cases ht : turn c s with
  | none =>
    rw [onTurn_of_none ht]
    exact refl s
  | some t =>
    rw [onTurn_of_some ht]
    exact (of_turn ht).trans (hact t)

end State.GoesOn

open State (GoesOn)

/-! ### The commands of the Control Link, taken (ControlCommands.lean, LadderCommands.lean, LinkCommands.lean) -/

theorem readStatus_goesOn (s : State) : s.GoesOn (readStatus s) := by
  have hnoted : s.GoesOn (noteReported s) := .of_eq rfl rfl
  exact hnoted.respond _

theorem clearEvents_goesOn (s : State) : s.GoesOn (clearEvents s) := by
  have hcleared : s.GoesOn (clearReported s) := .of_eq rfl rfl
  exact hcleared.respond _

theorem setMask_goesOn (m : EventSet) (s : State) : s.GoesOn (setMask m s) := .of_eq rfl rfl

theorem zeroCounters_goesOn (s : State) : s.GoesOn (zeroCounters s) := .of_eq rfl rfl

theorem setParameter_goesOn (i : Byte) (v : BitVec 32) (s : State) : s.GoesOn (setParameter i v s) := by
  unfold setParameter
  split
  · exact .response _ s
  · exact .response _ s
  · rename_i which x _ _
    have hstored : s.GoesOn (storeParameter which x s) := by
      rw [storeParameter_eq]
      exact .of_eq rfl rfl
    exact hstored.respond _

theorem readParameter_goesOn (i : Byte) (s : State) : s.GoesOn (readParameter i s) := by
  unfold readParameter
  split <;> exact .response _ s

theorem writeLadderEntry_goesOn (i : Byte) (f : EntryFields) (s : State) : s.GoesOn (writeLadderEntry i f s) := by
  have hwritten : s.GoesOn (writeEdit i.toNat (storedEntry f) s) := .of_eq rfl rfl
  unfold writeLadderEntry
  split
  · exact .response _ s
  · split <;> exact hwritten.respond _

theorem readLadderEntry_goesOn (copy i : Byte) (s : State) : s.GoesOn (readLadderEntry copy i s) := by
  rw [readLadderEntry_eq]
  exact .response _ s

theorem setLadderCount_goesOn (n : Byte) (s : State) : s.GoesOn (setLadderCount n s) := by
  have hcounted (x : ProfileLadder) : s.GoesOn (s.withLadder x) := .of_eq rfl rfl
  exact (hcounted _).respond _

theorem revertEdit_goesOn (s : State) : s.GoesOn (revertEdit s) := .of_eq rfl rfl

theorem commitLadder_goesOn (s : State) : s.GoesOn (commitLadder s) := by
  have hreplaced : s.GoesOn (replaceActive s) := .of_eq rfl rfl
  have hcommitted : s.GoesOn (carryOutCommit s) := by
    unfold carryOutCommit
    split <;> exact hreplaced.trans (.of_eq (by simp) (by simp))
  unfold commitLadder
  split
  · exact .response _ s
  · exact hcommitted.respond _

theorem startCommand_goesOn (s : State) : s.GoesOn (startCommand s) := by
  have hstarted : s.GoesOn (startLink s) :=
    .of_eq (by simp [startLink, changeLink, taeStart]) (by simp [startLink, changeLink, taeStart])
  unfold startCommand
  (repeat' split)
  · exact .response _ s
  · exact .response _ s
  · exact hstarted.respond _

theorem peerStop_goesOn (s : State) : s.GoesOn (peerStop s) := by
  unfold peerStop
  split
  · exact .refl s
  · exact ⟨by simp, by simp⟩

theorem stopCommand_goesOn (s : State) : s.GoesOn (stopCommand s) := by
  have hpeer := peerStop_goesOn (s.withLink .offline)
  have hstopped : s.GoesOn (stopLink s) :=
    GoesOn.trans (t := peerStop (s.withLink .offline)) ⟨hpeer.pending, hpeer.sent⟩
      (.of_eq (by simp [stopLink, changeLink, taeStop]) (by simp [stopLink, changeLink, taeStop]))
  unfold stopCommand
  split
  · exact .response _ s
  · exact hstopped.respond _

theorem changeLink_id_goesOn (new : LinkState) (s : State) : s.GoesOn (changeLink new id s) :=
  .of_eq (by simp) (by simp)

theorem changeLink_fallback_goesOn (new : LinkState) (s : State) : s.GoesOn (changeLink new fallback s) :=
  ⟨by simp, by simp⟩

theorem holdCommand_goesOn (s : State) : s.GoesOn (holdCommand s) := by
  unfold holdCommand
  split
  · exact (changeLink_fallback_goesOn .fixed s).respond _
  · exact (changeLink_fallback_goesOn .fixed s).respond _
  · exact (changeLink_id_goesOn .fixed s).respond _
  · exact .response _ s
  · exact .response _ s

theorem resumeCommand_goesOn (s : State) : s.GoesOn (resumeCommand s) := by
  unfold resumeCommand
  split
  · exact (changeLink_id_goesOn _ s).respond _
  · exact .response _ s

theorem pinCommand_goesOn (p : Byte) (s : State) : s.GoesOn (pinCommand p s) := by
  unfold pinCommand
  (repeat' split)
  · exact .response _ s
  · exact .response _ s
  · exact .response _ s
  · exact .response _ s
  · exact (changeLink_id_goesOn _ s).respond _

theorem unpinCommand_goesOn (s : State) : s.GoesOn (unpinCommand s) := by
  have hmoved : s.GoesOn ((changeLink .adaptive id s).withUnpinned true) :=
    (changeLink_id_goesOn .adaptive s).trans (.of_eq rfl rfl)
  unfold unpinCommand
  split
  · exact hmoved.respond _
  · exact .response _ s

theorem setExclusion_goesOn (code : Byte) (x : Bool) (s : State) : s.GoesOn (setExclusion code x s) := by
  unfold setExclusion
  split
  · rename_i l _
    have hset : s.GoesOn (s.withSelector { s.selector with excluded := s.selector.excluded.set l x }) := .of_eq rfl rfl
    exact hset.respond _
  · exact .response _ s

/-! ### The other arrivals -/

theorem softResetAnswered_goesOn (s : State) :
    s.GoesOn ((sendControl (Response.ok []).frame s).withControl { s.control with resetPending := true }) :=
  ⟨rfl, sendControl_sent_goesOn s.sent.goesOn_refl _⟩

theorem softResetBlocks_goesOn (n : Nat) (s : State) : s.GoesOn (softResetBlocks (abortRead n s)) :=
  ⟨by simp [softResetBlocks, revertEdit], abortRead_sent_goesOn s.sent.goesOn_refl n⟩

theorem messageSent_goesOn (l : Branch) (s : State) : s.GoesOn (messageSent l s) := by
  unfold messageSent
  split
  · exact .refl s
  · exact ⟨rfl, sendModem_sent_goesOn s.sent.goesOn_refl l _⟩

theorem reportWhen_goesOn (l : Branch) (m : List Byte) (when : Report → Bool) (s : State) :
    s.GoesOn (reportWhen l m when s) := by
  have hhandled : ∀ r, s.GoesOn (handleReport l r s) := fun r => ⟨by simp, by simp⟩
  unfold reportWhen
  split
  · exact (hhandled _).ite _
  · exact .refl s

theorem execTransmitSlotRequest_goesOn (l : Branch) (m : List Byte) (s : State) :
    ∃ t, execTransmitSlotRequest l m s = .next t ∧ s.GoesOn t := by
  have hhandled : ∀ n, s.GoesOn (handleSlot n s) := fun n => ⟨by simp, by simp⟩
  refine ⟨_, rfl, ?_⟩
  split
  · exact (hhandled _).ite _
  · exact .refl s

theorem execEndOfRead_goesOn (s : State) : ∃ t, execEndOfRead s = .next t ∧ s.GoesOn t := by
  refine ⟨_, rfl, ?_⟩
  split
  · exact ⟨by simp, by simp⟩
  · exact .refl s

theorem execDrainReady_goesOn (m : List Byte) (s : State) : ∃ t, execDrainReady m s = .next t ∧ s.GoesOn t := by
  have hhandled : ∀ p, s.GoesOn (handleDrainReady p s) := fun p => ⟨by simp, by simp⟩
  refine ⟨_, rfl, ?_⟩
  split
  · exact (hhandled _).ite _
  · exact .refl s

theorem execUnknownCommand_goesOn (f : List Byte) (s : State) : ∃ t, execUnknownCommand f s = .next t ∧ s.GoesOn t := by
  refine ⟨_, rfl, ?_⟩
  split
  · rename_i ht
    exact (GoesOn.of_turnOfFrame ht).respond _
  · exact .refl s

/-- Every command has a next state that keeps the queue and takes back nothing that has left. -/
theorem exec_goesOn (c : Instr) (s : State) : ∃ t, exec c s = .next t ∧ s.GoesOn t := by
  have hlost (l : Branch) : s.GoesOn (linkLost l s) := .of_eq rfl rfl
  have hevaluated : s.GoesOn (evaluate s) := .of_eq (by simp) (by simp)
  have hsilence : s.GoesOn (silenceStrobe s) := ⟨by simp, by simp⟩
  have htae : s.GoesOn (taeStrobe s) := ⟨by simp, by simp⟩
  have hframe : s.GoesOn (frameStrobe s) := ⟨by simp, by simp⟩
  cases c with
  | powerOnReset => exact ⟨_, rfl, .of_eq rfl rfl⟩
  | softReset => exact ⟨_, rfl, .onTurn _ softResetAnswered_goesOn s⟩
  | softResetTakesEffect n => exact ⟨_, rfl, (softResetBlocks_goesOn n s).ite _⟩
  | modemLinkDown l => exact ⟨_, rfl, (hlost l).ite _⟩
  | modemLinkUp l => exact ⟨_, rfl, .of_eq rfl rfl⟩
  | modemMessageSent l => exact ⟨_, rfl, messageSent_goesOn l s⟩
  | branchReport l m => exact ⟨_, rfl, reportWhen_goesOn l m _ s⟩
  | burstOverflow l m => exact ⟨_, rfl, reportWhen_goesOn l m _ s⟩
  | longFade l m => exact ⟨_, rfl, reportWhen_goesOn l m _ s⟩
  | fastFadingOff l m => exact ⟨_, rfl, reportWhen_goesOn l m _ s⟩
  | foreignSignal l m => exact ⟨_, rfl, reportWhen_goesOn l m _ s⟩
  | peerUp l m => exact ⟨_, rfl, reportWhen_goesOn l m _ s⟩
  | echoFault l m => exact ⟨_, rfl, reportWhen_goesOn l m _ s⟩
  | headerFollow l m => exact ⟨_, rfl, reportWhen_goesOn l m _ s⟩
  | transmitSlotRequest l m => exact execTransmitSlotRequest_goesOn l m s
  | reportAgeCount => exact ⟨_, rfl, .of_eq rfl rfl⟩
  | evaluation => exact ⟨_, rfl, hevaluated⟩
  | branchSwitched => exact ⟨_, rfl, hevaluated.ite _⟩
  | upshiftDwellReached => exact ⟨_, rfl, hevaluated.ite _⟩
  | requestStalled => exact ⟨_, rfl, hevaluated.ite _⟩
  | silenceCount => exact ⟨_, rfl, hsilence⟩
  | peerTimeout => exact ⟨_, rfl, hsilence.ite _⟩
  | taeStrobe => exact ⟨_, rfl, htae⟩
  | drainTimeout => exact ⟨_, rfl, htae.ite _⟩
  | slewStep => exact ⟨_, rfl, htae.ite _⟩
  | capacityLinkUp => exact ⟨_, rfl, .of_eq rfl rfl⟩
  | capacityLinkReset n => exact ⟨_, rfl, GoesOn.ite ⟨by simp, by simp⟩ _⟩
  | capacityRead m => exact ⟨_, rfl, GoesOn.ite ⟨by simp, by simp⟩ _⟩
  | endOfRead => exact execEndOfRead_goesOn s
  | drainReady m => exact execDrainReady_goesOn m s
  | frameStrobeCount => exact ⟨_, rfl, hframe⟩
  | frameTimeout => exact ⟨_, rfl, hframe.ite _⟩
  | unknownCommand f => exact execUnknownCommand_goesOn f s
  | readStatus => exact ⟨_, rfl, .onTurn _ readStatus_goesOn s⟩
  | clearEvents => exact ⟨_, rfl, .onTurn _ clearEvents_goesOn s⟩
  | setEventMask m => exact ⟨_, rfl, .onTurn _ (fun t => (setMask_goesOn _ t).respond _) s⟩
  | readCounters => exact ⟨_, rfl, .onTurn _ (fun t => .response _ t) s⟩
  | clearCounters => exact ⟨_, rfl, .onTurn _ (fun t => (zeroCounters_goesOn t).respond _) s⟩
  | setParameter i v => exact ⟨_, rfl, .onTurn _ (setParameter_goesOn i v) s⟩
  | readParameter i => exact ⟨_, rfl, .onTurn _ (readParameter_goesOn i) s⟩
  | writeLadderEntry i f => exact ⟨_, rfl, .onTurn _ (writeLadderEntry_goesOn i f) s⟩
  | readLadderEntry copy i => exact ⟨_, rfl, .onTurn _ (readLadderEntry_goesOn copy i) s⟩
  | setLadderCount n => exact ⟨_, rfl, .onTurn _ (setLadderCount_goesOn n) s⟩
  | commitLadder => exact ⟨_, rfl, .onTurn _ commitLadder_goesOn s⟩
  | revertLadder => exact ⟨_, rfl, .onTurn _ (fun t => (revertEdit_goesOn t).respond _) s⟩
  | start => exact ⟨_, rfl, .onTurn _ startCommand_goesOn s⟩
  | stop => exact ⟨_, rfl, .onTurn _ stopCommand_goesOn s⟩
  | hold => exact ⟨_, rfl, .onTurn _ holdCommand_goesOn s⟩
  | resume => exact ⟨_, rfl, .onTurn _ resumeCommand_goesOn s⟩
  | pin p => exact ⟨_, rfl, .onTurn _ (pinCommand_goesOn p) s⟩
  | unpin => exact ⟨_, rfl, .onTurn _ unpinCommand_goesOn s⟩
  | excludeBranch l => exact ⟨_, rfl, .onTurn _ (setExclusion_goesOn l true) s⟩
  | includeBranch l => exact ⟨_, rfl, .onTurn _ (setExclusion_goesOn l false) s⟩
  | controlLinkByteArrival b => exact ⟨_, rfl, by simp, by simp⟩

/-- Settles O2: every command goes on from the state it finds, log by log. -/
theorem everyCommandCompletes : Obligations.EveryCommandCompletes := by
  intro c s
  obtain ⟨t, ht, h⟩ := exec_goesOn c s
  exact ⟨t, ht, h.pending, h.sent.control, h.sent.capacity, h.sent.modem .a, h.sent.modem .b⟩

end Sys2Proof.Machine
end

section
/-! PROOFS. What a step does, by the form of the queue: O1. -/

namespace Sys2Proof.Machine

theorem step_of_pending_nil {s : State} (h : s.pending = []) : step s = .next s := by
  simp only [step, h]

theorem step_of_pending_cons {s : State} {c : Instr} {rest : List Instr} (h : s.pending = c :: rest) :
    step s = exec c (s.withPending rest) := by
  simp only [step, h]

/-- Settles O1: the queue that was written is the one the step finds, and taking its front command off overwrites it
with the rest. -/
theorem stepRunsTheFrontCommand : Obligations.StepRunsTheFrontCommand := by
  intro c rest s
  constructor
  · exact step_of_pending_cons (s := { s with pending := c :: rest }) rfl
  · exact step_of_pending_nil rfl

end Sys2Proof.Machine
end
